-- ==== Sys2Proof/Word.lean ====
section
/-! DEFINITION. The words of the block: bytes and 16-bit fields (spec/00_scope.md R6). -/

namespace Sys2Proof

/-- A byte, `u8` of R6: bit `n` has weight `2^n`. -/
abbrev Byte := BitVec 8

/-- A 16-bit field, `u16` or (read as two's complement) `i16` of R6. -/
abbrev Half := BitVec 16

end Sys2Proof
end

