-- ==== Sys2Proof/Machine/Bytes.lean ====
section
/-! DEFINITION. Byte order and the payload read and write primitives (spec/20_memory.md R52, R54). -/

namespace Sys2Proof.Machine

/-- The 16-bit value of two bytes, low byte first (R52, R54): `lo + 256 * hi`. -/
def le16 (lo hi : Byte) : Half := BitVec.ofNat 16 (lo.toNat + 256 * hi.toNat)

/-- `v & 0xFF` (R54), the byte at the lower offset. -/
def lowByte (v : Half) : Byte := (v &&& 0xFF).setWidth 8

/-- `v >> 8` (R54), the byte at the higher offset. -/
def highByte (v : Half) : Byte := (v >>> 8).setWidth 8

/-- `sext_16` (R7): the two's-complement reading of a 16-bit value. -/
def sext16 (v : Half) : Int := v.toInt

/-- `MemRead(p, off, 1)` (R54). A payload byte that does not exist reads as 0 here; every caller reads inside
the length the receiver has checked (R54). -/
def memRead1 (p : List Byte) (off : Nat) : Byte := p.getD off 0

/-- `MemRead(p, off, 2)` (R54). -/
def memRead2 (p : List Byte) (off : Nat) : Half := le16 (memRead1 p off) (memRead1 p (off + 1))

/-- `MemWrite(p, off, 1, v)` (R54). -/
def memWrite1 (p : List Byte) (off : Nat) (v : Byte) : List Byte := p.set off v

/-- `MemWrite(p, off, 2, v)` (R54, R247), the encoders' store of a 16-bit field. -/
def memWrite2 (p : List Byte) (off : Nat) (v : Half) : List Byte :=
  memWrite1 (memWrite1 p off (lowByte v)) (off + 1) (highByte v)

end Sys2Proof.Machine
end

