-- ==== Sys2Proof/Config.lean ====
section
/-! DEFINITION. The parameters of the block (spec/00_scope.md R5): the constants the spec fixes, the
values it decides, and the OPEN ones, which are constants with no body. -/

namespace Sys2Proof

/-- The two admissible roundings of an exact half (R241, `QUANT_TIE_RULE`). -/
inductive TieRule where
  /-- the neighbour farther from zero -/
  | halfAway
  /-- the even neighbour -/
  | halfEven
  deriving DecidableEq, Repr, Inhabited

namespace Config

/-- `MAGIC0` (R5, R80). -/
def magic0 : Byte := 0xBE
/-- `MAGIC1` (R5, R80). -/
def magic1 : Byte := 0xEF
/-- `ID_HANDSHAKE` (R5). -/
def idHandshake : Byte := 0
/-- `ID_TELEMETRY` (R5). -/
def idTelemetry : Byte := 1
/-- `ID_CONTROL` (R5). -/
def idControl : Byte := 101
/-- `HANDSHAKE_LEN` (R5, R83). -/
def handshakeLen : Byte := 4
/-- `CONTROL_LEN` (R5, R86). -/
def controlLen : Byte := 25
/-- `LEN_MAX` (R5, R82): the longest payload a frame can carry. -/
def lenMax : Nat := 255
/-- `BUF_SIZE` (R5, R24): `buf` has indices 0..254. -/
abbrev bufSize : Nat := 255
/-- `QUANT_SCALE` (R5, R240). -/
def quantScale : Nat := 50
/-- `AXIS_DIVISOR` (R5, R216). -/
def axisDivisor : Nat := 1000
/-- `HS_MAX_ATTEMPTS` (R5, R192): decided 15, at least 1 (log 10). -/
def hsMaxAttempts : Nat := 15
/-- `HS_POLL_INTERVAL` (R5, R197): decided 100 time units; no rule reads it (log 10). -/
def hsPollInterval : Nat := 100
/-- `HS_SETTLE_DELAY` (R5, R191): OPEN; no rule reads it (log 10). -/
opaque hsSettleDelay : Nat
/-- `RX_TELEMETRY_REGISTERED` (R5, R83, D7): decided `false` (log 11). -/
def rxTelemetryRegistered : Bool := false
/-- `TELEMETRY_LEN` less one: OPEN (R5, D6), so a constant with no body (log 8). -/
opaque telemetryLenPred : Fin 255
/-- `TELEMETRY_LEN` (R5): an integer 1..255, otherwise unknown (log 8). -/
def telemetryLen : Byte := BitVec.ofNat 8 (telemetryLenPred.val + 1)
/-- `QUANT_TIE_RULE` (R5, R241): OPEN, so a constant with no body (log 9). -/
opaque quantTieRule : TieRule
/-- The free values of `rx_len`, `cnt` and the bytes of `buf` where the spec leaves them unspecified (R24, R36, R159, U1;
log 5, log 6), one for each value of the counter `State.free`. -/
opaque freeByte : Nat → Byte
/-- The free value of CKSUM over more than 255 bytes, for which R140 states no result; a function of the operands, since
R58 says that the same input gives the same result (log 22). -/
opaque cksumBeyond : Byte → List Byte → Byte

end Config

end Sys2Proof
end

