-- ==== Sys2Proof/Syntax.lean ====
section
/-! DEFINITION. The instructions of the block, one constructor for each row of spec/opcode_table.json
(spec/30_encoding.md R94, R96, R99), and the transactions in which they are presented (spec/10_state.md R37). -/

namespace Sys2Proof

/-- The receiver's five control states (R21); the codes of R21 are labels no rule reads. -/
inductive RxState where
  | idle | sync | length | payload | check
  deriving DecidableEq, Repr

/-- The operand of QUANT (R37, R240, R243, R244): a real number, or a float with its special values. `angleDenotes` says
which real numbers an operand stands for; every real number is one of some operand (log 21). -/
inductive Angle where
  /-- a rational angle in degrees, exactly: every finite float is one -/
  | real (degrees : Rat)
  /-- an irrational angle in degrees, given by the whole number of hundredths of a degree just below it -/
  | irrational (hundredths : Int)
  /-- a float's negative zero, which denotes zero -/
  | negZero
  | posInf
  | negInf
  | nan
  deriving DecidableEq, Repr

/-- One constructor for each row of the opcode table. -/
inductive Instr where
  -- format FRAME: a whole frame on the receive side
  /-- FRAME.HANDSHAKE (R85): the three markers and the checksum byte. -/
  | frameHandshake (m1 m2 m3 ck : Byte)
  /-- FRAME.CONTROL (R86): the 24 payload bytes after the id, and the checksum byte. -/
  | frameControl (body : List Byte) (ck : Byte)
  /-- FRAME.TELEMETRY (R91): the LEN byte (the row masks it out), the payload after the id, the checksum byte. -/
  | frameTelemetry (len : Byte) (body : List Byte) (ck : Byte)
  -- format RXBYTE: the ten (state, byte class) pairs of R94
  /-- IDLE.BE (R151): the byte is `0xBE`. -/
  | idleBe
  /-- IDLE.SKIP (R152): any byte but `0xBE`. -/
  | idleSkip (b : Byte)
  /-- SYNC.EF (R153): the byte is `0xEF`. -/
  | syncEf
  /-- SYNC.MISS (R154): any byte but `0xEF`. -/
  | syncMiss (b : Byte)
  /-- LENGTH.ANY (R155). -/
  | lengthAny (b : Byte)
  /-- PAYLOAD.ID_OK (R156). -/
  | payloadIdOk (b : Byte)
  /-- PAYLOAD.ID_REJ (R157). -/
  | payloadIdRej (b : Byte)
  /-- PAYLOAD.BODY (R158). -/
  | payloadBody (b : Byte)
  /-- CHECK.OK (R159). -/
  | checkOk (b : Byte)
  /-- CHECK.FAIL (R160). -/
  | checkFail (b : Byte)
  -- format FIELD: one decoded field of the Control payload (R211 to R218); the operand is the field's value
  /-- CTL.SAS (R211): `f` is payload byte 1, as for the seven flags after it. -/
  | ctlSas (f : Byte)
  | ctlRcs (f : Byte)
  | ctlLights (f : Byte)
  | ctlGear (f : Byte)
  | ctlBrakes (f : Byte)
  | ctlPrecision (f : Byte)
  | ctlAbort (f : Byte)
  | ctlStage (f : Byte)
  /-- CTL.MODE (R212): payload byte 2. -/
  | ctlMode (f : Byte)
  /-- CTL.GROUP1 (R213): `f` is the 16-bit ControlGroup field at payload bytes 3 and 4, as for the ten rows after it. -/
  | ctlGroup1 (f : Half)
  | ctlGroup2 (f : Half)
  | ctlGroup3 (f : Half)
  | ctlGroup4 (f : Half)
  | ctlGroup5 (f : Half)
  | ctlGroup6 (f : Half)
  | ctlGroup7 (f : Half)
  | ctlGroup8 (f : Half)
  | ctlGroup9 (f : Half)
  | ctlGroup10 (f : Half)
  /-- CTL.GROUP_UNUSED (R213): bits 0 and 11..15. -/
  | ctlGroupUnused (f : Half)
  /-- CTL.AUTOPILOT_MODE (R214): payload byte 5. -/
  | ctlAutopilotMode (f : Byte)
  /-- CTL.SPEED_MODE (R215): payload byte 5. -/
  | ctlSpeedMode (f : Byte)
  /-- CTL.RESERVED (R218): payload byte 6. -/
  | ctlReserved (f : Byte)
  /-- CTL.PITCH (R216): `f` is the 16-bit field, as for the eight axes after it. -/
  | ctlPitch (f : Half)
  | ctlRoll (f : Half)
  | ctlYaw (f : Half)
  | ctlTx (f : Half)
  | ctlTy (f : Half)
  | ctlTz (f : Half)
  | ctlWheelSteer (f : Half)
  | ctlThrottle (f : Half)
  | ctlWheelThrottle (f : Half)
  /-- HS.MARKER1 (R193): Handshake payload byte 1. -/
  | hsMarker1 (f : Byte)
  /-- HS.MARKER2 (R193): Handshake payload byte 2. -/
  | hsMarker2 (f : Byte)
  /-- HS.MARKER3 (R193): Handshake payload byte 3. -/
  | hsMarker3 (f : Byte)
  -- format CMD: the operations of R96
  /-- RESET (R300). -/
  | resetBlock
  /-- OPEN (R301). -/
  | openLink
  /-- CLOSE (R302). -/
  | closeLink
  /-- RXBYTE (R161). -/
  | rxbyte (b : Byte)
  /-- RXSLICE (R163). -/
  | rxslice (bs : List Byte)
  /-- RECONCILE (R222). -/
  | reconcile
  /-- READ_CONTROL (R223). -/
  | readControl
  /-- CKSUM (R140). -/
  | cksum (len : Byte) (p : List Byte)
  /-- EXPECTED_LEN (R121). -/
  | expectedLen (id : Byte)
  /-- ENCODE (R120). -/
  | encodeFrame (id : Byte) (p : List Byte)
  /-- QUANT (R240). -/
  | quant (a : Angle)
  /-- TLM_SEND (R246). -/
  | tlmSend (t : List Byte)
  /-- HS_START (R191). -/
  | hsStart
  /-- HS_POLL (R192). -/
  | hsPoll
  deriving DecidableEq, Repr

/-- The two agents of R8 and R61. -/
inductive Agent where
  | transport | host
  deriving DecidableEq, Repr

/-- The four formats of the opcode table (R99). -/
inductive Format where
  | frame | rxbyte | field | cmd
  deriving DecidableEq, Repr

/-- The two payloads whose fields the FIELD rows name (`source_fields.payload`). -/
inductive PayloadKind where
  | control | handshake
  deriving DecidableEq, Repr

/-- The operand ports beside `cmd` (R37, R96): one byte (the received byte, LEN or id), a byte sequence
(`enc_payload` or a slice), and `quant_angle`. -/
structure CmdPorts where
  byte  : Byte := 0
  bytes : List Byte := []
  angle : Angle := .real 0
  deriving DecidableEq, Repr

/-- What is presented to the block in one step: the encoded form of an instruction.  The keys are the opcode
table's own (R99); `strobe` is the `rx_byte` strobe of R37. -/
inductive Transaction where
  /-- one received byte on `rx_byte` -/
  | strobe (b : Byte)
  /-- the bytes of a whole frame on the receive side, first transmitted byte first -/
  | frame (bytes : List Byte)
  /-- one received byte, presented under the RXBYTE row of this state and priority -/
  | rxRow (st : RxState) (priority : Nat) (b : Byte)
  /-- the bytes of one field (as they lie in the payload), under the FIELD row of this payload, offset and extract mask -/
  | field (kind : PayloadKind) (offset : Nat) (mask : Nat) (bytes : List Byte)
  /-- a command code with its operand ports -/
  | cmd (code : BitVec 4) (ports : CmdPorts)
  deriving DecidableEq, Repr

end Sys2Proof
end

