-- ==== Sys2Proof/WellFormed.lean ====
section
/-! DEFINITION. Which instructions the spec's encodings can express: the operand ranges of the rows. -/

namespace Sys2Proof

/-- An instruction whose operands its row admits: a Control frame carries the 24 bytes after the id (R86); the
skipping rows exclude the byte their neighbour takes (R152, R154). -/
def Instr.wellFormed : Instr → Bool
  | .frameControl body _ => body.length == 24
  | .idleSkip b => b != Config.magic0
  | .syncMiss b => b != Config.magic1
  | .frameHandshake _ _ _ _ | .frameTelemetry _ _ _
  | .idleBe | .syncEf | .lengthAny _ | .payloadIdOk _ | .payloadIdRej _ | .payloadBody _ | .checkOk _ | .checkFail _
  | .ctlSas _ | .ctlRcs _ | .ctlLights _ | .ctlGear _ | .ctlBrakes _ | .ctlPrecision _ | .ctlAbort _ | .ctlStage _
  | .ctlMode _ | .ctlGroup1 _ | .ctlGroup2 _ | .ctlGroup3 _ | .ctlGroup4 _ | .ctlGroup5 _ | .ctlGroup6 _
  | .ctlGroup7 _ | .ctlGroup8 _ | .ctlGroup9 _ | .ctlGroup10 _ | .ctlGroupUnused _
  | .ctlAutopilotMode _ | .ctlSpeedMode _ | .ctlReserved _
  | .ctlPitch _ | .ctlRoll _ | .ctlYaw _ | .ctlTx _ | .ctlTy _ | .ctlTz _ | .ctlWheelSteer _ | .ctlThrottle _
  | .ctlWheelThrottle _ | .hsMarker1 _ | .hsMarker2 _ | .hsMarker3 _
  | .resetBlock | .openLink | .closeLink | .rxbyte _ | .rxslice _ | .reconcile | .readControl | .cksum _ _
  | .expectedLen _ | .encodeFrame _ _ | .quant _ | .tlmSend _ | .hsStart | .hsPoll => true

end Sys2Proof
end

