-- ==== Sys2Proof/Decode.lean ====
section
/-! DEFINITION. Decoding a transaction to an instruction, total, rejecting by name; and the encoder
(spec/30_encoding.md R94, R96, R99 and spec/opcode_table.json). -/

namespace Sys2Proof

/-- Why a transaction is no instruction. -/
inductive DecodeError where
  /-- `cmd` codes 14 and 15 (R96, U3) -/
  | unassignedCmd (code : BitVec 4)
  /-- the first four bytes match no FRAME row (R99) -/
  | noFrameRow
  /-- the frame's byte count is not the one its row gives -/
  | frameLength
  /-- no RXBYTE row has this state and priority -/
  | noRxRow
  /-- the byte is not in the row's class (R94) -/
  | byteNotInClass
  /-- no FIELD row has this payload, offset and extract mask -/
  | noFieldRow
  /-- the field's byte count is not the row's width -/
  | fieldWidth
  deriving DecidableEq, Repr

/-- The FRAME rows (R99): the first four bytes are matched, `0xBEEF0400` and `0xBEEF1965` whole, `0xBEEF0001`
under the mask `0xFFFF00FF`. -/
def decodeFrame : List Byte → Except DecodeError Instr
  | b0 :: b1 :: len :: id :: rest =>
    if b0 = Config.magic0 ∧ b1 = Config.magic1 then
      if id = Config.idHandshake ∧ len = Config.handshakeLen then
        match rest with
        | [m1, m2, m3, ck] => .ok (.frameHandshake m1 m2 m3 ck)
        | _ => .error .frameLength
      else if id = Config.idControl ∧ len = Config.controlLen then
        if rest.length = 25 then .ok (.frameControl rest.dropLast (rest.getLastD 0))
        else .error .frameLength
      else if id = Config.idTelemetry then
        if rest.isEmpty then .error .frameLength
        else .ok (.frameTelemetry len rest.dropLast (rest.getLastD 0))
      else .error .noFrameRow
    else .error .noFrameRow
  | _ => .error .noFrameRow

/-- The RXBYTE rows (R94, R99), keyed by state and priority. -/
def decodeRxRow : RxState → Nat → Byte → Except DecodeError Instr
  | .idle, 1, b => if b = Config.magic0 then .ok .idleBe else .error .byteNotInClass
  | .idle, 2, b => if b = Config.magic0 then .error .byteNotInClass else .ok (.idleSkip b)
  | .sync, 1, b => if b = Config.magic1 then .ok .syncEf else .error .byteNotInClass
  | .sync, 2, b => if b = Config.magic1 then .error .byteNotInClass else .ok (.syncMiss b)
  | .length, 1, b => .ok (.lengthAny b)
  | .payload, 1, b => .ok (.payloadIdOk b)
  | .payload, 2, b => .ok (.payloadIdRej b)
  | .payload, 3, b => .ok (.payloadBody b)
  | .check, 1, b => .ok (.checkOk b)
  | .check, 2, b => .ok (.checkFail b)
  | _, _, _ => .error .noRxRow

/-- A one-byte field's value. -/
def oneByte (mk : Byte → Instr) : List Byte → Except DecodeError Instr
  | [b] => .ok (mk b)
  | _ => .error .fieldWidth

/-- A two-byte field's value, low byte first (R52, R99). -/
def twoBytes (mk : Half → Instr) : List Byte → Except DecodeError Instr
  | [lo, hi] => .ok (mk (Machine.le16 lo hi))
  | _ => .error .fieldWidth

/-- The FIELD rows (R99), keyed by payload, payload offset and extract mask. -/
def decodeField : PayloadKind → Nat → Nat → List Byte → Except DecodeError Instr
  | .control, 1, 0x80 => oneByte .ctlSas
  | .control, 1, 0x40 => oneByte .ctlRcs
  | .control, 1, 0x20 => oneByte .ctlLights
  | .control, 1, 0x10 => oneByte .ctlGear
  | .control, 1, 0x08 => oneByte .ctlBrakes
  | .control, 1, 0x04 => oneByte .ctlPrecision
  | .control, 1, 0x02 => oneByte .ctlAbort
  | .control, 1, 0x01 => oneByte .ctlStage
  | .control, 2, 0xFF => oneByte .ctlMode
  | .control, 3, 0x0002 => twoBytes .ctlGroup1
  | .control, 3, 0x0004 => twoBytes .ctlGroup2
  | .control, 3, 0x0008 => twoBytes .ctlGroup3
  | .control, 3, 0x0010 => twoBytes .ctlGroup4
  | .control, 3, 0x0020 => twoBytes .ctlGroup5
  | .control, 3, 0x0040 => twoBytes .ctlGroup6
  | .control, 3, 0x0080 => twoBytes .ctlGroup7
  | .control, 3, 0x0100 => twoBytes .ctlGroup8
  | .control, 3, 0x0200 => twoBytes .ctlGroup9
  | .control, 3, 0x0400 => twoBytes .ctlGroup10
  | .control, 3, 0xF801 => twoBytes .ctlGroupUnused
  | .control, 5, 0x0F => oneByte .ctlAutopilotMode
  | .control, 5, 0xF0 => oneByte .ctlSpeedMode
  | .control, 6, 0xFF => oneByte .ctlReserved
  | .control, 7, 0xFFFF => twoBytes .ctlPitch
  | .control, 9, 0xFFFF => twoBytes .ctlRoll
  | .control, 11, 0xFFFF => twoBytes .ctlYaw
  | .control, 13, 0xFFFF => twoBytes .ctlTx
  | .control, 15, 0xFFFF => twoBytes .ctlTy
  | .control, 17, 0xFFFF => twoBytes .ctlTz
  | .control, 19, 0xFFFF => twoBytes .ctlWheelSteer
  | .control, 21, 0xFFFF => twoBytes .ctlThrottle
  | .control, 23, 0xFFFF => twoBytes .ctlWheelThrottle
  | .handshake, 1, 0xFF => oneByte .hsMarker1
  | .handshake, 2, 0xFF => oneByte .hsMarker2
  | .handshake, 3, 0xFF => oneByte .hsMarker3
  | _, _, _ => fun _ => .error .noFieldRow

/-- The CMD rows (R96): the 4-bit `cmd` code and the operand ports it reads. -/
def decodeCmd (code : BitVec 4) (ports : CmdPorts) : Except DecodeError Instr :=
  match code.toNat with
  | 0 => .ok .resetBlock
  | 1 => .ok .openLink
  | 2 => .ok .closeLink
  | 3 => .ok (.rxbyte ports.byte)
  | 4 => .ok (.rxslice ports.bytes)
  | 5 => .ok .reconcile
  | 6 => .ok .readControl
  | 7 => .ok (.cksum ports.byte ports.bytes)
  | 8 => .ok (.expectedLen ports.byte)
  | 9 => .ok (.encodeFrame ports.byte ports.bytes)
  | 10 => .ok (.quant ports.angle)
  | 11 => .ok (.tlmSend ports.bytes)
  | 12 => .ok .hsStart
  | 13 => .ok .hsPoll
  | _ => .error (.unassignedCmd code)

/-- Decoding a transaction. A strobe on `rx_byte` is one RXBYTE (R37). -/
def decode : Transaction → Except DecodeError Instr
  | .strobe b => .ok (.rxbyte b)
  | .frame bytes => decodeFrame bytes
  | .rxRow st priority b => decodeRxRow st priority b
  | .field kind offset mask bytes => decodeField kind offset mask bytes
  | .cmd code ports => decodeCmd code ports

/-- A FIELD row's transaction for a one-byte field. -/
def fieldByte (kind : PayloadKind) (offset mask : Nat) (f : Byte) : Transaction :=
  .field kind offset mask [f]

/-- A FIELD row's transaction for a two-byte field, low byte first (R52). -/
def fieldHalf (kind : PayloadKind) (offset mask : Nat) (f : Half) : Transaction :=
  .field kind offset mask [Machine.lowByte f, Machine.highByte f]

/-- The frame bytes of R80 around a header's LEN and id: magic, LEN, id, the rest of the payload, checksum. -/
def frameBytes (len id : Byte) (body : List Byte) (ck : Byte) : List Byte :=
  Config.magic0 :: Config.magic1 :: len :: id :: (body ++ [ck])

/-- The encoder: the transaction of an instruction, from the same rows. -/
def encode : Instr → Transaction
  | .frameHandshake m1 m2 m3 ck => .frame (frameBytes Config.handshakeLen Config.idHandshake [m1, m2, m3] ck)
  | .frameControl body ck => .frame (frameBytes Config.controlLen Config.idControl body ck)
  | .frameTelemetry len body ck => .frame (frameBytes len Config.idTelemetry body ck)
  | .idleBe => .rxRow .idle 1 Config.magic0
  | .idleSkip b => .rxRow .idle 2 b
  | .syncEf => .rxRow .sync 1 Config.magic1
  | .syncMiss b => .rxRow .sync 2 b
  | .lengthAny b => .rxRow .length 1 b
  | .payloadIdOk b => .rxRow .payload 1 b
  | .payloadIdRej b => .rxRow .payload 2 b
  | .payloadBody b => .rxRow .payload 3 b
  | .checkOk b => .rxRow .check 1 b
  | .checkFail b => .rxRow .check 2 b
  | .ctlSas f => fieldByte .control 1 0x80 f
  | .ctlRcs f => fieldByte .control 1 0x40 f
  | .ctlLights f => fieldByte .control 1 0x20 f
  | .ctlGear f => fieldByte .control 1 0x10 f
  | .ctlBrakes f => fieldByte .control 1 0x08 f
  | .ctlPrecision f => fieldByte .control 1 0x04 f
  | .ctlAbort f => fieldByte .control 1 0x02 f
  | .ctlStage f => fieldByte .control 1 0x01 f
  | .ctlMode f => fieldByte .control 2 0xFF f
  | .ctlGroup1 f => fieldHalf .control 3 0x0002 f
  | .ctlGroup2 f => fieldHalf .control 3 0x0004 f
  | .ctlGroup3 f => fieldHalf .control 3 0x0008 f
  | .ctlGroup4 f => fieldHalf .control 3 0x0010 f
  | .ctlGroup5 f => fieldHalf .control 3 0x0020 f
  | .ctlGroup6 f => fieldHalf .control 3 0x0040 f
  | .ctlGroup7 f => fieldHalf .control 3 0x0080 f
  | .ctlGroup8 f => fieldHalf .control 3 0x0100 f
  | .ctlGroup9 f => fieldHalf .control 3 0x0200 f
  | .ctlGroup10 f => fieldHalf .control 3 0x0400 f
  | .ctlGroupUnused f => fieldHalf .control 3 0xF801 f
  | .ctlAutopilotMode f => fieldByte .control 5 0x0F f
  | .ctlSpeedMode f => fieldByte .control 5 0xF0 f
  | .ctlReserved f => fieldByte .control 6 0xFF f
  | .ctlPitch f => fieldHalf .control 7 0xFFFF f
  | .ctlRoll f => fieldHalf .control 9 0xFFFF f
  | .ctlYaw f => fieldHalf .control 11 0xFFFF f
  | .ctlTx f => fieldHalf .control 13 0xFFFF f
  | .ctlTy f => fieldHalf .control 15 0xFFFF f
  | .ctlTz f => fieldHalf .control 17 0xFFFF f
  | .ctlWheelSteer f => fieldHalf .control 19 0xFFFF f
  | .ctlThrottle f => fieldHalf .control 21 0xFFFF f
  | .ctlWheelThrottle f => fieldHalf .control 23 0xFFFF f
  | .hsMarker1 f => fieldByte .handshake 1 0xFF f
  | .hsMarker2 f => fieldByte .handshake 2 0xFF f
  | .hsMarker3 f => fieldByte .handshake 3 0xFF f
  | .resetBlock => .cmd 0 {}
  | .openLink => .cmd 1 {}
  | .closeLink => .cmd 2 {}
  | .rxbyte b => .cmd 3 { byte := b }
  | .rxslice bs => .cmd 4 { bytes := bs }
  | .reconcile => .cmd 5 {}
  | .readControl => .cmd 6 {}
  | .cksum len p => .cmd 7 { byte := len, bytes := p }
  | .expectedLen id => .cmd 8 { byte := id }
  | .encodeFrame id p => .cmd 9 { byte := id, bytes := p }
  | .quant a => .cmd 10 { angle := a }
  | .tlmSend t => .cmd 11 { bytes := t }
  | .hsStart => .cmd 12 {}
  | .hsPoll => .cmd 13 {}

/-- The format of an instruction's row (R99). -/
def Instr.format (i : Instr) : Format :=
  match encode i with
  | .frame _ => .frame
  | .rxRow _ _ _ | .strobe _ => .rxbyte
  | .field _ _ _ _ => .field
  | .cmd _ _ => .cmd

/-- Which agent issues an operation (R61); the FIELD rows run inside RXBYTE (R96), so they are the transport's.
The block does not enforce the split (R276). -/
def Instr.agent (i : Instr) : Agent :=
  match encode i with
  | .cmd code _ => if code = 3 ∨ code = 4 then .transport else .host
  | _ => .transport

/-- `n` zero bytes, the operand words the table's number does not reach. -/
def zeroBytes (n : Nat) : List Byte := List.replicate n 0

/-- The transaction a table word stands for (log 16). A 32-bit word is the first four bytes of a frame, most
significant first (R99), the frame's other bytes zero. A shorter word carries no format, so the format is read
from its width and value: `0xBE` and `0xEF` are the two RXBYTE rows with a byte of their own; a word with one bit
that only a FIELD row can name is that row's field; every other word is a `cmd` code in its low four bits. -/
def tableTransaction (nbits w : Nat) : Transaction :=
  if nbits = 32 then
    let len := w / 0x100 % 0x100
    .frame ([BitVec.ofNat 8 (w / 0x1000000), BitVec.ofNat 8 (w / 0x10000), BitVec.ofNat 8 (w / 0x100), BitVec.ofNat 8 w]
      ++ zeroBytes (max len 1))
  else if nbits = 16 ∧ w ∈ [0x02, 0x04, 0x10, 0x20, 0x40, 0x80, 0x100, 0x200, 0x400] then
    .field .control 3 w [BitVec.ofNat 8 w, BitVec.ofNat 8 (w / 0x100)]
  else if nbits = 8 ∧ w = 0xBE then .rxRow .idle 1 Config.magic0
  else if nbits = 8 ∧ w = 0xEF then .rxRow .sync 1 Config.magic1
  else if nbits = 8 ∧ w ∈ [0x08, 0x10, 0x20, 0x40, 0x80] then .field .control 1 w [BitVec.ofNat 8 w]
  else .cmd (BitVec.ofNat 4 w) {}

/-- The instruction the decoder reads from a table word. -/
def decodeTableWord (nbits w : Nat) : Option Instr :=
  (decode (tableTransaction nbits w)).toOption

end Sys2Proof
end

