-- ==== Sys2Proof/Machine/Registry.lean ====
section
/-! DEFINITION. The packet registry (spec/30_encoding.md R83, spec/10_state.md R33). -/

namespace Sys2Proof.Machine

/-- The registry as a function of the two parameters R83 names; 0 means "not registered". -/
def expectedLenWith (registered : Bool) (telemetryLen : Byte) (id : Byte) : Byte :=
  if id = Config.idHandshake then Config.handshakeLen
  else if id = Config.idControl then Config.controlLen
  else if id = Config.idTelemetry then (if registered then telemetryLen else 0)
  else 0

/-- `expected_len` (R83) as the receiver sees it, under the decided `RX_TELEMETRY_REGISTERED` (log 11). -/
def expectedLen (id : Byte) : Byte :=
  expectedLenWith Config.rxTelemetryRegistered Config.telemetryLen id

end Sys2Proof.Machine
end

