-- ==== Sys2Proof/Machine/State.lean ====
section
/-! DEFINITION. The state of the block (spec/10_state.md R20 to R37), its faults and refusals, and the state
after reset (R36). -/

namespace Sys2Proof.Machine

/-- The payload buffer `buf[0..254]` (R24): every index holds a byte, whether or not the spec specifies it (log 6). -/
abbrev Buffer := Vector Byte Config.bufSize

/-- A scaled axis (R28): the raw `i16`; its exact value is the view `Axis.value` (R216, log 18). -/
structure Axis where
  raw : Half
  deriving DecidableEq, Repr

/-- The axis whose raw value is 0. -/
def Axis.zero : Axis := ⟨0⟩

/-- A ControlState value (R28). -/
structure ControlState where
  sas : Bool
  rcs : Bool
  lights : Bool
  gear : Bool
  brakes : Bool
  precision : Bool
  abort : Bool
  stage : Bool
  mode : Byte
  /-- `control_group[0..10]` -/
  controlGroup : Vector Bool 11
  autopilotMode : BitVec 4
  speedMode : BitVec 4
  pitch : Axis
  roll : Axis
  yaw : Axis
  tx : Axis
  ty : Axis
  tz : Axis
  wheelSteer : Axis
  throttle : Axis
  wheelThrottle : Axis
  deriving DecidableEq, Repr

/-- `ZERO_CONTROL` (R36). -/
def zeroControl : ControlState where
  sas := false
  rcs := false
  lights := false
  gear := false
  brakes := false
  precision := false
  abort := false
  stage := false
  mode := 0
  controlGroup := Vector.replicate 11 false
  autopilotMode := 0
  speedMode := 0
  pitch := Axis.zero
  roll := Axis.zero
  yaw := Axis.zero
  tx := Axis.zero
  ty := Axis.zero
  tz := Axis.zero
  wheelSteer := Axis.zero
  throttle := Axis.zero
  wheelThrottle := Axis.zero

/-- The handshake states (R32, R190). -/
inductive HsState where
  | notStarted | awaitingReply | confirmed | timedOut
  deriving DecidableEq, Repr

/-- The causes of ENC_FAIL (R260, R269). -/
inductive EncCause where
  | lenOverflow | emptyPayload | idMismatch | lenMismatch
  deriving DecidableEq, Repr

/-- The events a step can raise (R30, R260). -/
inductive Event where
  | none
  | frame (id : Byte) (payload : List Byte)
  | resync (byte : Byte)
  | rejSize (id gotLen expLen : Byte)
  | rejCksum (id computed received : Byte)
  | hsTimeout
  | encFail (cause : EncCause)
  deriving DecidableEq, Repr

/-- The three arguments of handshake_reply (R193). -/
structure Markers where
  m1 : Byte
  m2 : Byte
  m3 : Byte
  deriving DecidableEq, Repr

/-- The result of READ_CONTROL (R223). -/
structure ControlView where
  cur : ControlState
  prev : ControlState
  valid : Bool
  deriving DecidableEq, Repr

/-- The state of the block: the record of R20, the event output of R30, the streams of R34, the host-side
output latches of R37, and the model's own fields. -/
structure State where
  /-- `st` (R21) -/
  st : RxState
  /-- `rx_len` (R22) -/
  rxLen : Byte
  /-- `cnt` (R23) -/
  cnt : Nat
  /-- `buf` (R24) -/
  buf : Buffer
  /-- `ctl.cur` (R29) -/
  cur : ControlState
  /-- `ctl.prev` (R29) -/
  prev : ControlState
  /-- `ctl_valid` (R31) -/
  ctlValid : Bool
  /-- `hs` (R32) -/
  hs : HsState
  /-- `hs_att` (R32) -/
  hsAtt : Nat
  /-- the event output `ev` of the last step (R30); of a step that delivers several bytes, of its last byte (log 15) -/
  ev : Event
  /-- the sequence of non-NONE events so far (R9; log 3) -/
  events : List Event
  /-- the TX stream (R34, R50; log 3) -/
  tx : List Byte
  /-- the operations not yet applied, in the order of one interleaving (R34, R60; log 1) -/
  pending : List Transaction
  /-- `quant_out` (R37; log 12) -/
  quantOut : Half
  /-- `cksum_out` (R37; log 12) -/
  cksumOut : Byte
  /-- `explen_out` (R37; log 12) -/
  explenOut : Byte
  /-- READ_CONTROL's result (R223; log 12) -/
  readOut : ControlView
  /-- the event list of the last RXSLICE or FRAME (R163, R122; log 12) -/
  sliceOut : List Event
  /-- the model's own: between CLOSE and OPEN (R271; log 7) -/
  linkClosed : Bool
  /-- the model's own: the record a FIELD lane run alone writes into (log 13) -/
  dec : ControlState
  /-- the model's own: the arguments an HS.MARKER lane run alone writes into (log 13) -/
  hsArgs : Markers
  /-- the model's own: how many free values have been used (log 5) -/
  free : Nat
  deriving DecidableEq, Repr

/-- Where the machine stops with a fault. Every fault is safe: it is raised only in states that no run from
reset reaches (log 17), and nothing is claimed of the hardware there. -/
inductive Fault where
  /-- `buf[255]` or above was written: raised by PAYLOAD.BODY (R24); safe -/
  | bufOverrun
  /-- the dispatch mux met a payload R162 calls unreachable: raised by CHECK.OK; safe -/
  | unreachableDispatch
  deriving DecidableEq, Repr

/-- Where the model gives no step. Every refusal is safe. -/
inductive Refusal where
  /-- an instruction without a meaning in this model: raised by exec's arm of it; safe -/
  | notModelled (mnemonic : String)
  /-- a received byte between CLOSE and OPEN: raised by every RXBYTE row, RXBYTE, RXSLICE and the FRAME rows (R271, U5); safe -/
  | linkClosed
  /-- an RXBYTE row whose condition the state or the byte does not meet: raised by the ten rows (R94; log 14); safe -/
  | notSelected
  /-- HS_START when `hs` is not NotStarted: raised by HS_START (R191, U4); safe -/
  | handshakeStarted
  /-- QUANT of a NaN: raised by QUANT (R243, U6); safe -/
  | quantNaN
  /-- CTL_DECODE outside its domain: raised by CHECK.OK, in states no run reaches (R210, U7); safe -/
  | ctlDecodeDomain
  /-- a transaction that is no instruction: raised by step (R96, U3; log 16); safe -/
  | undecodable (why : DecodeError)
  deriving DecidableEq, Repr

/-- The outcome of a step of this machine. -/
abbrev Result := Host.Outcome State Fault Refusal

/-- The state after reset (R36), with no operation presented, nothing emitted and no event raised. -/
def State.reset : State where
  st := .idle
  rxLen := 0
  cnt := 0
  buf := Vector.replicate Config.bufSize 0
  cur := zeroControl
  prev := zeroControl
  ctlValid := false
  hs := .notStarted
  hsAtt := 0
  ev := .none
  events := []
  tx := []
  pending := []
  quantOut := 0
  cksumOut := 0
  explenOut := 0
  readOut := ⟨zeroControl, zeroControl, false⟩
  sliceOut := []
  linkClosed := false
  dec := zeroControl
  hsArgs := ⟨0, 0, 0⟩
  free := 0

end Sys2Proof.Machine
end

