-- ==== Sys2Proof/Machine/Flags.lean ====
section
/-! DEFINITION. The block's flags: the event output (spec/10_state.md R30, spec/60_exceptions.md R260), the
encoder's failure cause (R269), the handshake outcome (R193). -/

namespace Sys2Proof.Machine

/-- The code of an event (R260). -/
def Event.code : Event → Nat
  | .none => 0
  | .frame _ _ => 1
  | .resync _ => 2
  | .rejSize _ _ _ => 3
  | .rejCksum _ _ _ => 4
  | .hsTimeout => 5
  | .encFail _ => 6

/-- An event as the observable sequence counts it: NONE is no entry (R9, R163). -/
def Event.toList : Event → List Event
  | .none => []
  | e => [e]

/-- `raise E` (R7, R30): the step's event output is `e`, and the event sequence grows by it. -/
def raise (e : Event) (s : State) : State :=
  { s with ev := e, events := s.events ++ e.toList }

/-- Why ENCODE cannot frame its operand, checked in R120's order. -/
def encodeFailure (id : Byte) (p : List Byte) : Option EncCause :=
  if p.length > Config.lenMax then some .lenOverflow
  else match p with
    | [] => some .emptyPayload
    | b :: _ => if b = id then none else some .idMismatch

/-- The outcome of handshake_reply (R193): `HS_REPLY` is (3, 1, 4). -/
def replyOutcome (m1 m2 m3 : Byte) : HsState :=
  if m1 = 3 ∧ m2 = 1 ∧ m3 = 4 then .confirmed else .timedOut

end Sys2Proof.Machine
end

