-- ==== Sys2Proof/Machine/Ops.lean ====
section
/-! DEFINITION. The shared operations: the payload buffer (spec/20_memory.md R50), the checksum (R140), framing
(R80, R120), the reject (R273), the reset writes (R300), the TX stream (R64). -/

namespace Sys2Proof.Machine

/-- Go on from a next state; stop where the outcome stopped. -/
def andThen (r : Result) (k : State → Result) : Result :=
  match r with
  | .next s => k s
  | .fault f => .fault f
  | .refused f => .refused f

/-- `buf[a] <- b` (R7); index 255 and above does not exist (R24). -/
def bufStore (a : Nat) (b : Byte) (s : State) : Result :=
  if h : a < Config.bufSize then .next { s with buf := s.buf.set a b h } else .fault .bufOverrun

/-- `buf[0..rx_len-1]` (R141, R159). -/
def payloadOf (s : State) : List Byte := s.buf.toList.take s.rxLen.toNat

/-- `cksum(len, p)` (R140): the exclusive-or fold of `len` and every byte, in order. -/
def cksum (len : Byte) (p : List Byte) : Byte := p.foldl (fun c b => c ^^^ b) len

/-- CKSUM's result: the fold on the 0 to 255 bytes R140 gives the function, a free value beyond (log 22). -/
def cksumResult (len : Byte) (p : List Byte) : Byte :=
  if p.length ≤ Config.lenMax then cksum len p else Config.cksumBeyond len p

/-- The frame macro `FRAME(p)` of R98, ENCODE's byte sequence (R80, R120): magic, length, payload, checksum. -/
def frameOf (p : List Byte) : List Byte :=
  Config.magic0 :: Config.magic1 :: BitVec.ofNat 8 p.length :: (p ++ [cksum (BitVec.ofNat 8 p.length) p])

/-- The macro `HS(m1, m2, m3)`'s payload (R85, R98). -/
def handshakePayload (m1 m2 m3 : Byte) : List Byte := [Config.idHandshake, m1, m2, m3]

/-- `emit_tx` (R7): append to the TX stream. -/
def emitTx (bytes : List Byte) (s : State) : State := { s with tx := s.tx ++ bytes }

/-- Taking a reject (R273): `st` to IDLE, the event raised, nothing saved and no other register written. There is
no return from it (R274): the next byte is scanned in IDLE. -/
def reject (e : Event) (s : State) : State := raise e { s with st := .idle }

/-- A buffer of unspecified bytes (R24, U1): a free value at every index, from the counter `n` on (log 6). -/
@[irreducible] def freeBuffer (n : Nat) : Buffer := Vector.ofFn fun i => Config.freeByte (n + i.val)

/-- The buffer's content is discarded (R160, R24): every byte of it is unspecified. -/
def discardBuf (s : State) : State := { s with buf := freeBuffer s.free, free := s.free + Config.bufSize }

/-- `rx_len`, `cnt` and `buf` become unspecified (R36, R159, U1; log 5, log 6). -/
def forgetFrame (s : State) : State :=
  discardBuf
    { s with
      rxLen := Config.freeByte s.free
      cnt := (Config.freeByte (s.free + 1)).toNat
      free := s.free + 2 }

/-- The writes of RESET, OPEN and CLOSE (R300 to R302). -/
def resetWrites (s : State) : State :=
  forgetFrame
    { s with
      st := .idle
      cur := zeroControl
      prev := zeroControl
      ctlValid := false
      hs := .notStarted
      hsAtt := 0 }

/-- ENCODE(id, p) (R120): emit the frame, or raise ENC_FAIL and emit nothing. -/
def encodeStep (id : Byte) (p : List Byte) (s : State) : State :=
  match encodeFailure id p with
  | some cause => raise (.encFail cause) s
  | none => raise .none (emitTx (frameOf p) s)

/-- The reply check run by the dispatch mux while a reply is awaited (R193); `hs_att` stays as it is. -/
def handshakeReply (m1 m2 m3 : Byte) (s : State) : State := { s with hs := replyOutcome m1 m2 m3 }

/-- Received bytes are refused between CLOSE and OPEN (R271, U5; log 7). -/
def whenOpen (s : State) (r : Result) : Result := if s.linkClosed then .refused .linkClosed else r

end Sys2Proof.Machine
end

