-- ==== Sys2Proof/Machine/Operands.lean ====
section
/-! DEFINITION. How operands are assembled: the fields of the Control payload (spec/30_encoding.md R92,
spec/44_control_decoder.md R210 to R218) and the quantizer's arithmetic (spec/45_telemetry_quantizer.md R240 to R243). -/

namespace Sys2Proof.Machine

/-- Bit `n` of MainControls (R211). -/
def flagBit (m : Byte) (n : Nat) : Bool := m.getLsbD n

/-- `control_group[n]` of a ControlGroup field (R213): bit `n` for 1..10, `control_group[0]` false. -/
def groupBit (cg : Half) (n : Fin 11) : Bool := n.val != 0 && cg.getLsbD n.val

/-- The low nibble (R214). -/
def lowNibble (b : Byte) : BitVec 4 := (b &&& 0x0F).setWidth 4

/-- The high nibble, a logical shift (R215). -/
def highNibble (b : Byte) : BitVec 4 := (b >>> 4).setWidth 4

/-- An axis from its 16-bit field (R216). -/
def axisOf (f : Half) : Axis := ⟨f⟩

/-- The exact quotient `raw / 1000` (R216). -/
def Axis.value (x : Axis) : Rat := (sext16 x.raw : Rat) / (Config.axisDivisor : Rat)

/-- The record CTL_DECODE builds from a payload (R211 to R216, offsets R86). -/
def ctlRecord (p : List Byte) : ControlState where
  sas := flagBit (memRead1 p 1) 7
  rcs := flagBit (memRead1 p 1) 6
  lights := flagBit (memRead1 p 1) 5
  gear := flagBit (memRead1 p 1) 4
  brakes := flagBit (memRead1 p 1) 3
  precision := flagBit (memRead1 p 1) 2
  abort := flagBit (memRead1 p 1) 1
  stage := flagBit (memRead1 p 1) 0
  mode := memRead1 p 2
  controlGroup := Vector.ofFn (groupBit (memRead2 p 3))
  autopilotMode := lowNibble (memRead1 p 5)
  speedMode := highNibble (memRead1 p 5)
  pitch := axisOf (memRead2 p 7)
  roll := axisOf (memRead2 p 9)
  yaw := axisOf (memRead2 p 11)
  tx := axisOf (memRead2 p 13)
  ty := axisOf (memRead2 p 15)
  tz := axisOf (memRead2 p 17)
  wheelSteer := axisOf (memRead2 p 19)
  throttle := axisOf (memRead2 p 21)
  wheelThrottle := axisOf (memRead2 p 23)

/-- CTL_DECODE(p) (R210): none outside its domain, 25 bytes of which the first is 101 (U7). -/
def ctlDecode (p : List Byte) : Option ControlState :=
  if p.length = Config.controlLen.toNat ∧ memRead1 p 0 = Config.idControl then some (ctlRecord p) else none

/-- The macro `CTL(...)`'s payload (R98): the fields in declared order, 16-bit fields low byte first. -/
def controlPayload (mc mode : Byte) (cg : Half) (apnav res : Byte) (axes : List Half) : List Byte :=
  [Config.idControl, mc, mode, lowByte cg, highByte cg, apnav, res]
    ++ axes.flatMap fun a => [lowByte a, highByte a]

/-- Which neighbour an exact half `fl + 1/2` rounds to (R241). -/
def roundTie (tie : TieRule) (fl : Int) : Int :=
  match tie with
  | .halfAway => if 0 ≤ fl then fl + 1 else fl
  | .halfEven => if fl % 2 = 0 then fl else fl + 1

/-- `round(x)` (R241): the integer nearest to `x`, an exact half by the tie rule. The floor and the remainder are
those of the numerator by the denominator. -/
def roundRat (tie : TieRule) (x : Rat) : Int :=
  let fl := x.num / (x.den : Int)
  let twice := 2 * (x.num % (x.den : Int))
  if twice < x.den then fl
  else if x.den < twice then fl + 1
  else roundTie tie fl

/-- The clamp to `i16` (R240, R242). -/
def clamp16 (r : Int) : Half :=
  BitVec.ofInt 16 (if r > 32767 then 32767 else if r < -32768 then -32768 else r)

/-- `round(50 * x)` of an irrational `x` between `h` and `h + 1` hundredths (R241): `2 * 50 * x` lies between `h` and
`h + 1`, so no half is met and the nearest integer is the floor of half of `h + 1`. -/
def roundIrrational (h : Int) : Int := (h + 1) / 2

/-- The real numbers an operand of QUANT stands for (R37, R240, R243, R244; log 21). -/
def angleDenotes (a : Angle) (x : ℝ) : Prop :=
  match a with
  | .real q => x = (q : ℝ)
  | .irrational h => Irrational x ∧ (h : ℝ) < 100 * x ∧ 100 * x < (h : ℝ) + 1
  | .negZero => x = 0
  | .posInf | .negInf | .nan => False

/-- `round(a * 50)` (R240, R241), the tie rule given; none where the operand is no real number. -/
def roundAngle (tie : TieRule) : Angle → Option Int
  | .real q => some (roundRat tie (q * (Config.quantScale : Rat)))
  | .irrational h => some (roundIrrational h)
  | .negZero => some 0
  | .posInf | .negInf | .nan => none

/-- QUANT of any operand, the tie rule given; none for a NaN (R243). -/
def quantWith (tie : TieRule) (a : Angle) : Option Half :=
  match a with
  | .posInf => some (BitVec.ofInt 16 32767)
  | .negInf => some (BitVec.ofInt 16 (-32768))
  | .real _ | .irrational _ | .negZero | .nan => (roundAngle tie a).map clamp16

/-- QUANT under the OPEN parameter `QUANT_TIE_RULE` (R241, log 9). -/
def quantize (a : Angle) : Option Half := quantWith Config.quantTieRule a

/-- The binary32 number nearest to `n / 1000`, ties to even, for `n` in 1..32768, without its sign. With `e` the
exponent of `n / 1000` the significand is the nearest integer to `n * 2^(23-e) / 1000`; adding it to the biased
exponent carries a significand of `2^24` into the exponent. -/
def binary32Magnitude (n : Nat) : Nat :=
  let top := Nat.log2 (n * 2 ^ 10 * 2 ^ 24 / 1000)      -- e + 34
  let scaled := n * 2 ^ (57 - top)                        -- n * 2^(23 - e)
  let q := scaled / 1000
  let r := scaled % 1000
  let sig := if 500 < r ∨ (r = 500 ∧ q % 2 = 1) then q + 1 else q
  (top + 92) * 2 ^ 23 + sig                               -- (e + 126) * 2^23 + sig

/-- `AXIS_FLOAT(raw)` (R217, D14; log 18): the binary32 pattern nearest to `raw / 1000`, ties to even. DESIGN CHOICE: of
the two binary32 zeros `AXIS_FLOAT(0)` is the positive one, which R217 leaves open (log 23). -/
def axisFloat (raw : Half) : BitVec 32 :=
  let n := (sext16 raw).natAbs
  if n = 0 then 0
  else if raw.msb then BitVec.ofNat 32 (2 ^ 31 + binary32Magnitude n)
  else BitVec.ofNat 32 (binary32Magnitude n)

/-- The machine-float view of a scaled axis (R217). -/
def Axis.float (x : Axis) : BitVec 32 := axisFloat x.raw

end Sys2Proof.Machine
end

