-- ==== Sys2Proof/Machine/Codec.lean ====
section
/-! DEFINITION. CKSUM (spec/41_checksum.md R140), EXPECTED_LEN and ENCODE (spec/40_frame_codec.md R121, R120). -/

namespace Sys2Proof.Machine

/-- CKSUM (R140): the result on `cksum_out`. -/
def execCksum (len : Byte) (p : List Byte) (s : State) : Result :=
  .next (raise .none { s with cksumOut := cksumResult len p })

/-- EXPECTED_LEN (R121): the result on `explen_out`, 0 for an unregistered id. -/
def execExpectedLen (id : Byte) (s : State) : Result :=
  .next (raise .none { s with explenOut := expectedLen id })

/-- ENCODE (R120, R269). -/
def execEncodeFrame (id : Byte) (p : List Byte) (s : State) : Result := .next (encodeStep id p s)

end Sys2Proof.Machine
end

