-- ==== Sys2Proof/Machine/Connection.lean ====
section
/-! DEFINITION. RESET, OPEN and CLOSE (spec/70_reset_and_hazards.md R300 to R302). -/

namespace Sys2Proof.Machine

/-- RESET (R300). -/
def execResetBlock (s : State) : Result := .next (raise .none (resetWrites s))

/-- OPEN (R301): the writes of RESET, and received bytes are taken from here on. -/
def execOpenLink (s : State) : Result := .next (raise .none { resetWrites s with linkClosed := false })

/-- CLOSE (R302): the writes of RESET, and received bytes are refused until the next OPEN (R271). -/
def execCloseLink (s : State) : Result := .next (raise .none { resetWrites s with linkClosed := true })

end Sys2Proof.Machine
end

