-- ==== Sys2Proof/Machine/Control.lean ====
section
/-! DEFINITION. The Control decoder's lanes (spec/44_control_decoder.md R211 to R218), RECONCILE (R222) and
READ_CONTROL (R223).  A FIELD row run alone decodes its field into the model's own record `dec` (or, for the markers,
`hsArgs`); no lane writes `ctl.cur` or `ctl.prev`, which only a completed Control frame and RECONCILE write, whole
(R29, R38, R57; log 13). -/

namespace Sys2Proof.Machine

/-- A lane: one field of the decoded record; event NONE. -/
def lane (f : ControlState → ControlState) (s : State) : Result := .next (raise .none { s with dec := f s.dec })

/-- A marker lane: one argument of handshake_reply (R193); event NONE. -/
def markerLane (f : Markers → Markers) (s : State) : Result := .next (raise .none { s with hsArgs := f s.hsArgs })

/-- `control_group[n]` of the record (R213). -/
def setGroup (n : Fin 11) (cg : Half) (c : ControlState) : ControlState :=
  { c with controlGroup := c.controlGroup.set n.val (groupBit cg n) n.isLt }

/-- CTL.SAS (R211): bit 7 of MainControls. -/
def execCtlSas (f : Byte) (s : State) : Result := lane (fun c => { c with sas := flagBit f 7 }) s

/-- CTL.RCS (R211): bit 6 of MainControls. -/
def execCtlRcs (f : Byte) (s : State) : Result := lane (fun c => { c with rcs := flagBit f 6 }) s

/-- CTL.LIGHTS (R211): bit 5 of MainControls. -/
def execCtlLights (f : Byte) (s : State) : Result := lane (fun c => { c with lights := flagBit f 5 }) s

/-- CTL.GEAR (R211): bit 4 of MainControls. -/
def execCtlGear (f : Byte) (s : State) : Result := lane (fun c => { c with gear := flagBit f 4 }) s

/-- CTL.BRAKES (R211): bit 3 of MainControls. -/
def execCtlBrakes (f : Byte) (s : State) : Result := lane (fun c => { c with brakes := flagBit f 3 }) s

/-- CTL.PRECISION (R211): bit 2 of MainControls. -/
def execCtlPrecision (f : Byte) (s : State) : Result := lane (fun c => { c with precision := flagBit f 2 }) s

/-- CTL.ABORT (R211): bit 1 of MainControls. -/
def execCtlAbort (f : Byte) (s : State) : Result := lane (fun c => { c with abort := flagBit f 1 }) s

/-- CTL.STAGE (R211): bit 0 of MainControls. -/
def execCtlStage (f : Byte) (s : State) : Result := lane (fun c => { c with stage := flagBit f 0 }) s

/-- CTL.MODE (R212): passed through unchanged. -/
def execCtlMode (f : Byte) (s : State) : Result := lane (fun c => { c with mode := f }) s

/-- CTL.GROUP1 (R213). -/
def execCtlGroup1 (f : Half) (s : State) : Result := lane (setGroup 1 f) s

/-- CTL.GROUP2 (R213). -/
def execCtlGroup2 (f : Half) (s : State) : Result := lane (setGroup 2 f) s

/-- CTL.GROUP3 (R213). -/
def execCtlGroup3 (f : Half) (s : State) : Result := lane (setGroup 3 f) s

/-- CTL.GROUP4 (R213). -/
def execCtlGroup4 (f : Half) (s : State) : Result := lane (setGroup 4 f) s

/-- CTL.GROUP5 (R213). -/
def execCtlGroup5 (f : Half) (s : State) : Result := lane (setGroup 5 f) s

/-- CTL.GROUP6 (R213). -/
def execCtlGroup6 (f : Half) (s : State) : Result := lane (setGroup 6 f) s

/-- CTL.GROUP7 (R213). -/
def execCtlGroup7 (f : Half) (s : State) : Result := lane (setGroup 7 f) s

/-- CTL.GROUP8 (R213). -/
def execCtlGroup8 (f : Half) (s : State) : Result := lane (setGroup 8 f) s

/-- CTL.GROUP9 (R213). -/
def execCtlGroup9 (f : Half) (s : State) : Result := lane (setGroup 9 f) s

/-- CTL.GROUP10 (R213). -/
def execCtlGroup10 (f : Half) (s : State) : Result := lane (setGroup 10 f) s

/-- CTL.GROUP_UNUSED (R213): bits 0 and 11..15 are read by nothing; `control_group[0]` is false. -/
def execCtlGroupUnused (f : Half) (s : State) : Result := lane (setGroup 0 f) s

/-- CTL.AUTOPILOT_MODE (R214). -/
def execCtlAutopilotMode (f : Byte) (s : State) : Result := lane (fun c => { c with autopilotMode := lowNibble f }) s

/-- CTL.SPEED_MODE (R215). -/
def execCtlSpeedMode (f : Byte) (s : State) : Result := lane (fun c => { c with speedMode := highNibble f }) s

/-- CTL.RESERVED (R218): accepted with any value, decoded into no field. -/
def execCtlReserved (_f : Byte) (s : State) : Result := lane (fun c => c) s

/-- CTL.PITCH (R216). -/
def execCtlPitch (f : Half) (s : State) : Result := lane (fun c => { c with pitch := axisOf f }) s

/-- CTL.ROLL (R216). -/
def execCtlRoll (f : Half) (s : State) : Result := lane (fun c => { c with roll := axisOf f }) s

/-- CTL.YAW (R216). -/
def execCtlYaw (f : Half) (s : State) : Result := lane (fun c => { c with yaw := axisOf f }) s

/-- CTL.TX (R216). -/
def execCtlTx (f : Half) (s : State) : Result := lane (fun c => { c with tx := axisOf f }) s

/-- CTL.TY (R216). -/
def execCtlTy (f : Half) (s : State) : Result := lane (fun c => { c with ty := axisOf f }) s

/-- CTL.TZ (R216). -/
def execCtlTz (f : Half) (s : State) : Result := lane (fun c => { c with tz := axisOf f }) s

/-- CTL.WHEEL_STEER (R216). -/
def execCtlWheelSteer (f : Half) (s : State) : Result := lane (fun c => { c with wheelSteer := axisOf f }) s

/-- CTL.THROTTLE (R216). -/
def execCtlThrottle (f : Half) (s : State) : Result := lane (fun c => { c with throttle := axisOf f }) s

/-- CTL.WHEEL_THROTTLE (R216). -/
def execCtlWheelThrottle (f : Half) (s : State) : Result := lane (fun c => { c with wheelThrottle := axisOf f }) s

/-- HS.MARKER1 (R193, R92). -/
def execHsMarker1 (f : Byte) (s : State) : Result := markerLane (fun m => { m with m1 := f }) s

/-- HS.MARKER2 (R193, R92). -/
def execHsMarker2 (f : Byte) (s : State) : Result := markerLane (fun m => { m with m2 := f }) s

/-- HS.MARKER3 (R193, R92). -/
def execHsMarker3 (f : Byte) (s : State) : Result := markerLane (fun m => { m with m3 := f }) s

/-- RECONCILE (R222): `ctl.prev <- ctl.cur`, whole. -/
def execReconcile (s : State) : Result := .next (raise .none { s with prev := s.cur })

/-- READ_CONTROL (R223): the pair and the flag, from the same instant. -/
def execReadControl (s : State) : Result :=
  .next (raise .none { s with readOut := ⟨s.cur, s.prev, s.ctlValid⟩ })

end Sys2Proof.Machine
end

