-- ==== Sys2Proof/Machine/Receiver.lean ====
section
/-! DEFINITION. The receiver (spec/42_receiver.md): the rules R151 to R160, the dispatch mux R162, RXBYTE R161 and
RXSLICE R163. -/

namespace Sys2Proof.Machine

/-- The ten (state, byte class) pairs of R94. -/
inductive RxClass where
  | idleBe | idleSkip | syncEf | syncMiss | lengthAny
  | payloadIdOk | payloadIdRej | payloadBody | checkOk | checkFail
  deriving DecidableEq, Repr

/-- The condition of PAYLOAD.ID_OK on the id byte (R156). -/
def idAccepted (s : State) (b : Byte) : Bool := expectedLen b != 0 && expectedLen b == s.rxLen

/-- Which pair a received byte falls in (R94, R161). -/
def classify (s : State) (b : Byte) : RxClass :=
  match s.st with
  | .idle => if b = Config.magic0 then .idleBe else .idleSkip
  | .sync => if b = Config.magic1 then .syncEf else .syncMiss
  | .length => .lengthAny
  | .payload => if s.cnt = 0 then (if idAccepted s b then .payloadIdOk else .payloadIdRej) else .payloadBody
  | .check => if b = cksum s.rxLen (payloadOf s) then .checkOk else .checkFail

/-- R151. -/
def ruleIdleBe (s : State) : Result := .next (raise .none { s with st := .sync })

/-- R152. -/
def ruleIdleSkip (s : State) : Result := .next (raise .none { s with st := .idle })

/-- R153. -/
def ruleSyncEf (s : State) : Result := .next (raise .none { s with st := .length })

/-- R154, R263. -/
def ruleSyncMiss (b : Byte) (s : State) : Result := .next (reject (.resync b) s)

/-- R155. -/
def ruleLengthAny (b : Byte) (s : State) : Result :=
  .next (raise .none { s with rxLen := b, cnt := 0, st := .payload })

/-- R156. -/
def rulePayloadIdOk (b : Byte) (s : State) : Result :=
  bufStore 0 b (raise .none { s with cnt := 1, st := if s.rxLen = 1 then .check else .payload })

/-- R157, R264. -/
def rulePayloadIdRej (b : Byte) (s : State) : Result :=
  .next (reject (.rejSize b s.rxLen (expectedLen b)) s)

/-- R158. -/
def rulePayloadBody (b : Byte) (s : State) : Result :=
  bufStore s.cnt b
    (raise .none { s with cnt := s.cnt + 1, st := if s.cnt + 1 = s.rxLen.toNat then .check else .payload })

/-- The dispatch mux (R162) on a completed payload. -/
def dispatch (p : List Byte) (s : State) : Result :=
  match p with
  | [] => .fault .unreachableDispatch
  | id :: body =>
    if id = Config.idControl then
      match ctlDecode p with
      | some c => .next { s with cur := c, ctlValid := true }
      | none => .refused .ctlDecodeDomain
    else if id = Config.idHandshake then
      match body with
      | m1 :: m2 :: m3 :: _ => .next (if s.hs = .awaitingReply then handshakeReply m1 m2 m3 s else s)
      | _ => .fault .unreachableDispatch
    else if id = Config.idTelemetry then .next s
    else .fault .unreachableDispatch

/-- R159: the payload is copied out, FRAME raised and the mux run in the same step; `rx_len`, `cnt` and `buf` become
unspecified. -/
def ruleCheckOk (s : State) : Result :=
  let p := payloadOf s
  dispatch p (raise (.frame (memRead1 p 0) p) (forgetFrame { s with st := .idle }))

/-- R160, R265. -/
def ruleCheckFail (b : Byte) (s : State) : Result :=
  .next (reject (.rejCksum (memRead1 (payloadOf s) 0) (cksum s.rxLen (payloadOf s)) b) (discardBuf s))

/-- The rule of a pair. -/
def applyRule (c : RxClass) (b : Byte) (s : State) : Result :=
  match c with
  | .idleBe => ruleIdleBe s
  | .idleSkip => ruleIdleSkip s
  | .syncEf => ruleSyncEf s
  | .syncMiss => ruleSyncMiss b s
  | .lengthAny => ruleLengthAny b s
  | .payloadIdOk => rulePayloadIdOk b s
  | .payloadIdRej => rulePayloadIdRej b s
  | .payloadBody => rulePayloadBody b s
  | .checkOk => ruleCheckOk s
  | .checkFail => ruleCheckFail b s

/-- RXBYTE(b) (R161): exactly one of R151 to R160. -/
def takeByte (b : Byte) (s : State) : Result := whenOpen s (applyRule (classify s b) b s)

/-- A row of R94 run by name: its rule where its condition holds, else refused (log 14). -/
def takeRow (c : RxClass) (b : Byte) (rule : Result) (s : State) : Result :=
  whenOpen s (if classify s b = c then rule else .refused .notSelected)

/-- One byte of a slice: its event, unless NONE, is appended to the slice's result (R163). -/
def noteSliceEvent (s : State) : State := { s with sliceOut := s.sliceOut ++ s.ev.toList }

/-- The bytes of a slice in order (R163). -/
def takeBytes : List Byte → State → Result
  | [], s => .next s
  | b :: bs, s => andThen (takeByte b s) fun s' => takeBytes bs (noteSliceEvent s')

/-- Delivering a byte sequence (R163): the result list starts empty, the event output NONE. -/
def deliver (bs : List Byte) (s : State) : Result := takeBytes bs { s with ev := .none, sliceOut := [] }

/-- IDLE.BE (R151). -/
def execIdleBe (s : State) : Result := takeRow .idleBe Config.magic0 (ruleIdleBe s) s

/-- IDLE.SKIP (R152). -/
def execIdleSkip (b : Byte) (s : State) : Result := takeRow .idleSkip b (ruleIdleSkip s) s

/-- SYNC.EF (R153). -/
def execSyncEf (s : State) : Result := takeRow .syncEf Config.magic1 (ruleSyncEf s) s

/-- SYNC.MISS (R154). -/
def execSyncMiss (b : Byte) (s : State) : Result := takeRow .syncMiss b (ruleSyncMiss b s) s

/-- LENGTH.ANY (R155). -/
def execLengthAny (b : Byte) (s : State) : Result := takeRow .lengthAny b (ruleLengthAny b s) s

/-- PAYLOAD.ID_OK (R156). -/
def execPayloadIdOk (b : Byte) (s : State) : Result := takeRow .payloadIdOk b (rulePayloadIdOk b s) s

/-- PAYLOAD.ID_REJ (R157). -/
def execPayloadIdRej (b : Byte) (s : State) : Result := takeRow .payloadIdRej b (rulePayloadIdRej b s) s

/-- PAYLOAD.BODY (R158). -/
def execPayloadBody (b : Byte) (s : State) : Result := takeRow .payloadBody b (rulePayloadBody b s) s

/-- CHECK.OK (R159). -/
def execCheckOk (b : Byte) (s : State) : Result := takeRow .checkOk b (ruleCheckOk s) s

/-- CHECK.FAIL (R160). -/
def execCheckFail (b : Byte) (s : State) : Result := takeRow .checkFail b (ruleCheckFail b s) s

/-- RXBYTE (R161). -/
def execRxbyte (b : Byte) (s : State) : Result := takeByte b s

/-- RXSLICE (R163; log 15). -/
def execRxslice (bs : List Byte) (s : State) : Result := deliver bs s

end Sys2Proof.Machine
end

