-- ==== Sys2Proof/Machine/Frame.lean ====
section
/-! DEFINITION. The FRAME rows (spec/30_encoding.md R80, R85, R86, R91, R99): a whole frame on the receive side is its
bytes delivered in order, DECODE_FRAME of spec/40_frame_codec.md R122 (log 15). -/

namespace Sys2Proof.Machine

/-- FRAME.HANDSHAKE (R85). -/
def execFrameHandshake (m1 m2 m3 ck : Byte) (s : State) : Result :=
  deliver (frameBytes Config.handshakeLen Config.idHandshake [m1, m2, m3] ck) s

/-- FRAME.CONTROL (R86). -/
def execFrameControl (body : List Byte) (ck : Byte) (s : State) : Result :=
  deliver (frameBytes Config.controlLen Config.idControl body ck) s

/-- FRAME.TELEMETRY (R91). -/
def execFrameTelemetry (len : Byte) (body : List Byte) (ck : Byte) (s : State) : Result :=
  deliver (frameBytes len Config.idTelemetry body ck) s

end Sys2Proof.Machine
end

