-- ==== Sys2Proof/Machine/Handshake.lean ====
section
/-! DEFINITION. HS_START and HS_POLL (spec/43_handshake.md R191, R192). -/

namespace Sys2Proof.Machine

/-- The challenge payload (R85, R191): markers (1, 2, 3). -/
def challengePayload : List Byte := handshakePayload 1 2 3

/-- HS_START (R191): emit the challenge frame; refused unless `hs` is NotStarted. -/
def execHsStart (s : State) : Result :=
  if s.hs = .notStarted then
    .next (encodeStep Config.idHandshake challengePayload { s with hs := .awaitingReply, hsAtt := 0 })
  else .refused .handshakeStarted

/-- HS_POLL (R192). -/
def execHsPoll (s : State) : Result :=
  if s.hs ≠ .awaitingReply then .next (raise .none s)
  else if s.hsAtt + 1 ≥ Config.hsMaxAttempts then
    .next (raise .hsTimeout { s with hsAtt := Config.hsMaxAttempts, hs := .timedOut })
  else .next (raise .none { s with hsAtt := s.hsAtt + 1 })

end Sys2Proof.Machine
end

