-- ==== Sys2Proof/Machine/Telemetry.lean ====
section
/-! DEFINITION. QUANT and TLM_SEND (spec/45_telemetry_quantizer.md R240 to R246). -/

namespace Sys2Proof.Machine

/-- QUANT (R240 to R244): the result on `quant_out`; a NaN is refused (R243). -/
def execQuant (a : Angle) (s : State) : Result :=
  match quantize a with
  | some q => .next (raise .none { s with quantOut := q })
  | none => .refused .quantNaN

/-- TLM_SEND (R246): ENC_FAIL(LEN_MISMATCH) unless the payload has `TELEMETRY_LEN` bytes, else ENCODE(1, t). -/
def execTlmSend (t : List Byte) (s : State) : Result :=
  if t.length = Config.telemetryLen.toNat then .next (encodeStep Config.idTelemetry t s)
  else .next (raise (.encFail .lenMismatch) s)

end Sys2Proof.Machine
end

