-- ==== Sys2Proof/Machine/Dispatch.lean ====
section
/-! DEFINITION. One arm for each constructor of Instr: its meaning. -/

namespace Sys2Proof.Machine

def exec (i : Instr) (s : State) : Host.Outcome State Fault Refusal :=
  match i with
  | .frameHandshake m1 m2 m3 ck => Sys2Proof.Machine.execFrameHandshake m1 m2 m3 ck s
  | .frameControl body ck => Sys2Proof.Machine.execFrameControl body ck s
  | .frameTelemetry len body ck => Sys2Proof.Machine.execFrameTelemetry len body ck s
  | .idleBe => Sys2Proof.Machine.execIdleBe s
  | .idleSkip b => Sys2Proof.Machine.execIdleSkip b s
  | .syncEf => Sys2Proof.Machine.execSyncEf s
  | .syncMiss b => Sys2Proof.Machine.execSyncMiss b s
  | .lengthAny b => Sys2Proof.Machine.execLengthAny b s
  | .payloadIdOk b => Sys2Proof.Machine.execPayloadIdOk b s
  | .payloadIdRej b => Sys2Proof.Machine.execPayloadIdRej b s
  | .payloadBody b => Sys2Proof.Machine.execPayloadBody b s
  | .checkOk b => Sys2Proof.Machine.execCheckOk b s
  | .checkFail b => Sys2Proof.Machine.execCheckFail b s
  | .ctlSas f => Sys2Proof.Machine.execCtlSas f s
  | .ctlRcs f => Sys2Proof.Machine.execCtlRcs f s
  | .ctlLights f => Sys2Proof.Machine.execCtlLights f s
  | .ctlGear f => Sys2Proof.Machine.execCtlGear f s
  | .ctlBrakes f => Sys2Proof.Machine.execCtlBrakes f s
  | .ctlPrecision f => Sys2Proof.Machine.execCtlPrecision f s
  | .ctlAbort f => Sys2Proof.Machine.execCtlAbort f s
  | .ctlStage f => Sys2Proof.Machine.execCtlStage f s
  | .ctlMode f => Sys2Proof.Machine.execCtlMode f s
  | .ctlGroup1 f => Sys2Proof.Machine.execCtlGroup1 f s
  | .ctlGroup2 f => Sys2Proof.Machine.execCtlGroup2 f s
  | .ctlGroup3 f => Sys2Proof.Machine.execCtlGroup3 f s
  | .ctlGroup4 f => Sys2Proof.Machine.execCtlGroup4 f s
  | .ctlGroup5 f => Sys2Proof.Machine.execCtlGroup5 f s
  | .ctlGroup6 f => Sys2Proof.Machine.execCtlGroup6 f s
  | .ctlGroup7 f => Sys2Proof.Machine.execCtlGroup7 f s
  | .ctlGroup8 f => Sys2Proof.Machine.execCtlGroup8 f s
  | .ctlGroup9 f => Sys2Proof.Machine.execCtlGroup9 f s
  | .ctlGroup10 f => Sys2Proof.Machine.execCtlGroup10 f s
  | .ctlGroupUnused f => Sys2Proof.Machine.execCtlGroupUnused f s
  | .ctlAutopilotMode f => Sys2Proof.Machine.execCtlAutopilotMode f s
  | .ctlSpeedMode f => Sys2Proof.Machine.execCtlSpeedMode f s
  | .ctlReserved f => Sys2Proof.Machine.execCtlReserved f s
  | .ctlPitch f => Sys2Proof.Machine.execCtlPitch f s
  | .ctlRoll f => Sys2Proof.Machine.execCtlRoll f s
  | .ctlYaw f => Sys2Proof.Machine.execCtlYaw f s
  | .ctlTx f => Sys2Proof.Machine.execCtlTx f s
  | .ctlTy f => Sys2Proof.Machine.execCtlTy f s
  | .ctlTz f => Sys2Proof.Machine.execCtlTz f s
  | .ctlWheelSteer f => Sys2Proof.Machine.execCtlWheelSteer f s
  | .ctlThrottle f => Sys2Proof.Machine.execCtlThrottle f s
  | .ctlWheelThrottle f => Sys2Proof.Machine.execCtlWheelThrottle f s
  | .hsMarker1 f => Sys2Proof.Machine.execHsMarker1 f s
  | .hsMarker2 f => Sys2Proof.Machine.execHsMarker2 f s
  | .hsMarker3 f => Sys2Proof.Machine.execHsMarker3 f s
  | .resetBlock => Sys2Proof.Machine.execResetBlock s
  | .openLink => Sys2Proof.Machine.execOpenLink s
  | .closeLink => Sys2Proof.Machine.execCloseLink s
  | .rxbyte b => Sys2Proof.Machine.execRxbyte b s
  | .rxslice bs => Sys2Proof.Machine.execRxslice bs s
  | .reconcile => Sys2Proof.Machine.execReconcile s
  | .readControl => Sys2Proof.Machine.execReadControl s
  | .cksum len p => Sys2Proof.Machine.execCksum len p s
  | .expectedLen id => Sys2Proof.Machine.execExpectedLen id s
  | .encodeFrame id p => Sys2Proof.Machine.execEncodeFrame id p s
  | .quant a => Sys2Proof.Machine.execQuant a s
  | .tlmSend t => Sys2Proof.Machine.execTlmSend t s
  | .hsStart => Sys2Proof.Machine.execHsStart s
  | .hsPoll => Sys2Proof.Machine.execHsPoll s

end Sys2Proof.Machine
end

