-- ==== Sys2Proof/Machine/Step.lean ====
section
/-! DEFINITION. One step: the next presented operation is taken, decoded and executed (spec/00_scope.md R8). -/

namespace Sys2Proof.Machine

/-- The next operation is taken from the list (log 1); with none presented the block stays as it is (R281; log 2). -/
def step (s : State) : Host.Outcome State Fault Refusal :=
  match s.pending with
  | [] => .next s
  | t :: ts =>
    match decode t with
    | .ok i => exec i { s with pending := ts }
    | .error e => .refused (.undecodable e)

/-- `s` with a transaction presented next; a row of RXBYTE is presented in the receiver state it names (R99). -/
def State.present (s : State) (t : Transaction) : State :=
  match t with
  | .rxRow st _ _ => { s with st := st, pending := t :: s.pending }
  | _ => { s with pending := t :: s.pending }

/-- `s` with a table word's instruction presented next (log 16). -/
def State.withFetchWord (s : State) (nbits w : Nat) : State := s.present (tableTransaction nbits w)

end Sys2Proof.Machine
end

