-- ==== Sys2Proof/Safety.lean ====
section
/-! DEFINITION. What the claims are stated in: the invariant of spec/10_state.md R27, what is observable
(spec/00_scope.md R9), when two states mean the same (spec/93_implementation_defined.md U1), and running a list of instructions. -/

namespace Sys2Proof.Machine

/-- The receiver is inside a payload (R24): the states in which `rx_len`, `cnt` and `buf` mean something. -/
def State.collecting (s : State) : Prop := s.st = .payload ∨ s.st = .check

/-- The invariant of the block. -/
structure Inv (s : State) : Prop where
  /-- R27 (a) -/
  check_full : s.st = .check → s.cnt = s.rxLen.toNat ∧ 1 ≤ s.rxLen.toNat
  /-- R27 (b) -/
  payload_short : s.st = .payload → s.cnt < s.rxLen.toNat ∨ s.cnt = 0
  /-- R27 (c) -/
  id_registered : s.collecting → 1 ≤ s.cnt →
    expectedLen s.buf[0] = s.rxLen ∧ s.rxLen ≠ 0
  /-- R23: `cnt` fits eight bits -/
  cnt_byte : s.cnt ≤ 255
  /-- R32: `hs_att` is 0..HS_MAX_ATTEMPTS, and below the budget while a reply is awaited -/
  attempts : s.hsAtt ≤ Config.hsMaxAttempts ∧ (s.hs = .awaitingReply → s.hsAtt < Config.hsMaxAttempts)
  /-- R31, R223: until a Control frame is decoded both snapshots are ZERO_CONTROL -/
  zero_until_valid : s.ctlValid = false → s.cur = zeroControl ∧ s.prev = zeroControl
  /-- R28: `control_group[0]` is always false -/
  group_zero : s.cur.controlGroup[0] = false ∧ s.prev.controlGroup[0] = false

/-- What a host can see (R9): the event sequence, the TX stream, the ControlState pair with its flag, the handshake
state. -/
structure Observation where
  events : List Event
  tx : List Byte
  cur : ControlState
  prev : ControlState
  ctlValid : Bool
  hs : HsState
  deriving DecidableEq, Repr

/-- The observation of a state (R9). -/
def observe (s : State) : Observation := ⟨s.events, s.tx, s.cur, s.prev, s.ctlValid, s.hs⟩

/-- Two states that differ only where the spec leaves a value unspecified (U1): in `rx_len`, `cnt` and `buf` outside a
payload, in `buf[i]` for `i ≥ cnt` inside one, and in the counter of the model's free values. -/
def SameMeaning (s t : State) : Prop :=
  t = { s with rxLen := t.rxLen, cnt := t.cnt, buf := t.buf, free := t.free } ∧
  (s.collecting → t.rxLen = s.rxLen ∧ t.cnt = s.cnt ∧ ∀ i < s.cnt, t.buf[i]? = s.buf[i]?)

/-- The instructions of a list, one after the other. -/
def execAll : List Instr → State → Result
  | [], s => .next s
  | i :: is, s => andThen (exec i s) (execAll is)

/-- The rows of R94 that can hold for a received byte `b`, one for each (state, class) pair whose class holds `b`. -/
def rowsOf (b : Byte) : List Instr :=
  [if b = Config.magic0 then .idleBe else .idleSkip b, if b = Config.magic1 then .syncEf else .syncMiss b,
    .lengthAny b, .payloadIdOk b, .payloadIdRej b, .payloadBody b, .checkOk b, .checkFail b]

/-- The FIELD rows of the Control payload, each with the field of the payload `p` it names (R86, R99). -/
def controlFieldRows (p : List Byte) : List Instr :=
  [.ctlSas (memRead1 p 1), .ctlRcs (memRead1 p 1), .ctlLights (memRead1 p 1), .ctlGear (memRead1 p 1),
    .ctlBrakes (memRead1 p 1), .ctlPrecision (memRead1 p 1), .ctlAbort (memRead1 p 1), .ctlStage (memRead1 p 1),
    .ctlMode (memRead1 p 2),
    .ctlGroup1 (memRead2 p 3), .ctlGroup2 (memRead2 p 3), .ctlGroup3 (memRead2 p 3), .ctlGroup4 (memRead2 p 3),
    .ctlGroup5 (memRead2 p 3), .ctlGroup6 (memRead2 p 3), .ctlGroup7 (memRead2 p 3), .ctlGroup8 (memRead2 p 3),
    .ctlGroup9 (memRead2 p 3), .ctlGroup10 (memRead2 p 3), .ctlGroupUnused (memRead2 p 3),
    .ctlAutopilotMode (memRead1 p 5), .ctlSpeedMode (memRead1 p 5), .ctlReserved (memRead1 p 6),
    .ctlPitch (memRead2 p 7), .ctlRoll (memRead2 p 9), .ctlYaw (memRead2 p 11), .ctlTx (memRead2 p 13),
    .ctlTy (memRead2 p 15), .ctlTz (memRead2 p 17), .ctlWheelSteer (memRead2 p 19), .ctlThrottle (memRead2 p 21),
    .ctlWheelThrottle (memRead2 p 23)]

end Sys2Proof.Machine
end

