-- ==== Sys2Proof/Certificates/Slice0/Obligations.lean ====
section
/-! DEFINITION. The statements for the provers. In a statement of the form `t = { s with … , buf := t.buf }` the fields given as
`t.…` are the ones the statement leaves open; every other field is as in `s` or as written. -/

open Sys2Proof Sys2Proof.Machine

/-! ## The receiver's rows (spec/42_receiver.md) -/

/-- R151, R152: IDLE scans for `0xBE` and discards every other byte. -/
def Obligations.IdleScansForFirstMagicByte : Prop :=
  ∀ s : State, s.linkClosed = false → s.st = .idle →
    exec .idleBe s = .next { s with st := .sync, ev := .none } ∧
    ∀ b : Byte, b ≠ 0xBE → exec (.idleSkip b) s = .next { s with st := .idle, ev := .none }

/-- R153, R154, R263: `0xEF` as the very next byte opens the header; a miss, `0xBE` included, returns to IDLE and raises
RESYNC with the byte. -/
def Obligations.SyncNeedsSecondMagicByteNext : Prop :=
  ∀ s : State, s.linkClosed = false → s.st = .sync →
    exec .syncEf s = .next { s with st := .length, ev := .none } ∧
    ∀ b : Byte, b ≠ 0xEF → exec (.syncMiss b) s =
      .next { s with st := .idle, ev := .resync b, events := s.events ++ [.resync b] }

/-- R155. -/
def Obligations.LengthByteLatched : Prop :=
  ∀ (s : State) (b : Byte), s.linkClosed = false → s.st = .length →
    exec (.lengthAny b) s = .next { s with rxLen := b, cnt := 0, st := .payload, ev := .none }

/-- R156: the id byte is stored at index 0, no other index of the buffer changes. -/
def Obligations.IdByteAcceptedAtSlotZero : Prop :=
  ∀ (s : State) (b : Byte), s.linkClosed = false → s.st = .payload → s.cnt = 0 →
    expectedLen b ≠ 0 → expectedLen b = s.rxLen →
    ∃ t, exec (.payloadIdOk b) s = .next t ∧
      t = { s with buf := t.buf, cnt := 1, st := if s.rxLen = 1 then .check else .payload, ev := .none } ∧
      t.buf[0]? = some b ∧ ∀ a : Nat, a ≠ 0 → t.buf[a]? = s.buf[a]?

/-- R157, R264: nothing is stored, REJ_SIZE carries the id, the length received and the registered length. -/
def Obligations.IdByteRejectedBySize : Prop :=
  ∀ (s : State) (b : Byte), s.linkClosed = false → s.st = .payload → s.cnt = 0 →
    (expectedLen b = 0 ∨ expectedLen b ≠ s.rxLen) →
    exec (.payloadIdRej b) s =
      .next { s with
        st := .idle
        ev := .rejSize b s.rxLen (expectedLen b)
        events := s.events ++ [.rejSize b s.rxLen (expectedLen b)] }

/-- R158: the byte is stored at index `cnt`, no other index of the buffer changes. -/
def Obligations.BodyByteStoredAtCnt : Prop :=
  ∀ (s : State) (b : Byte), s.linkClosed = false → s.st = .payload → 1 ≤ s.cnt → s.cnt < 255 →
    ∃ t, exec (.payloadBody b) s = .next t ∧
      t = { s with
        buf := t.buf
        cnt := s.cnt + 1
        st := if s.cnt + 1 = s.rxLen.toNat then .check else .payload
        ev := .none } ∧
      t.buf[s.cnt]? = some b ∧ ∀ a : Nat, a ≠ s.cnt → t.buf[a]? = s.buf[a]?

/-- R159, R162, R220: a completed Control frame. -/
def Obligations.CompletedControlFrameReplacesCur : Prop :=
  ∀ (s : State) (p : List Byte), s.linkClosed = false → s.st = .check → payloadOf s = p →
    p.length = 25 → p.head? = some 101 →
    ∃ t c, exec (.checkOk (cksum s.rxLen p)) s = .next t ∧ ctlDecode p = some c ∧
      t = { s with
        st := .idle
        cur := c
        ctlValid := true
        ev := .frame 101 p
        events := s.events ++ [.frame 101 p]
        rxLen := t.rxLen, cnt := t.cnt, buf := t.buf, free := t.free }

/-- R159, R193, R194: a completed Handshake frame resolves an awaited handshake and otherwise changes nothing else. -/
def Obligations.CompletedHandshakeFrameResolvesAwaited : Prop :=
  ∀ (s : State) (m1 m2 m3 : Byte), s.linkClosed = false → s.st = .check → payloadOf s = [0, m1, m2, m3] →
    ∃ t, exec (.checkOk (cksum s.rxLen [0, m1, m2, m3])) s = .next t ∧
      t = { s with
        st := .idle
        hs := if s.hs = .awaitingReply then
            (if m1 = 3 ∧ m2 = 1 ∧ m3 = 4 then .confirmed else .timedOut) else s.hs
        ev := .frame 0 [0, m1, m2, m3]
        events := s.events ++ [.frame 0 [0, m1, m2, m3]]
        rxLen := t.rxLen, cnt := t.cnt, buf := t.buf, free := t.free }

/-- R160, R265: a checksum mismatch raises REJ_CKSUM and dispatches nothing (the discarded buffer is left open: the spec
specifies no content of it, and the model's is log 6). -/
def Obligations.ChecksumMismatchRaisesRejCksum : Prop :=
  ∀ (s : State) (p : List Byte) (id b : Byte), s.linkClosed = false → s.st = .check → payloadOf s = p →
    p.head? = some id → b ≠ cksum s.rxLen p →
    ∃ t, exec (.checkFail b) s = .next t ∧
      t = { s with
        st := .idle
        ev := .rejCksum id (cksum s.rxLen p) b
        events := s.events ++ [.rejCksum id (cksum s.rxLen p) b]
        buf := t.buf, free := t.free }

/-- R161: under the invariant RXBYTE is total while the link is open. -/
def Obligations.RxbyteNeverRefusedNeverBlocks : Prop :=
  ∀ (s : State) (b : Byte), Inv s → s.linkClosed = false → ∃ t, exec (.rxbyte b) s = .next t

/-- R94, R161: of the rows whose class holds `b`, exactly one is selected; RXBYTE is that row and the others do not run
(that they are refused is the model's choice, log 14). -/
def Obligations.ExactlyOneRowSelected : Prop :=
  ∀ (s : State) (b : Byte), Inv s → s.linkClosed = false →
    ∃ i ∈ rowsOf b, (∃ t, exec i s = .next t) ∧ exec (.rxbyte b) s = exec i s ∧
      ∀ j ∈ rowsOf b, j ≠ i → exec j s = .refused .notSelected

/-- R271 (U5): a received byte between CLOSE and OPEN is refused, however it is presented. -/
def Obligations.ReceivedBytesRefusedWhileClosed : Prop :=
  ∀ s : State, s.linkClosed = true →
    (∀ b, ∀ i ∈ Instr.rxbyte b :: rowsOf b, exec i s = .refused .linkClosed) ∧
    (∀ bs, bs ≠ [] → exec (.rxslice bs) s = .refused .linkClosed) ∧
    (∀ m1 m2 m3 ck, exec (.frameHandshake m1 m2 m3 ck) s = .refused .linkClosed) ∧
    (∀ body ck, exec (.frameControl body ck) s = .refused .linkClosed) ∧
    (∀ len body ck, exec (.frameTelemetry len body ck) s = .refused .linkClosed)

/-- R163: an empty slice does nothing, and cutting a slice anywhere gives the same events and the same final state. (`ev`
holds the event of the last byte delivered, log 15.) -/
def Obligations.SliceBoundaryHasNoMeaning : Prop :=
  (∀ s : State, exec (.rxslice []) s = .next { s with ev := .none, sliceOut := [] }) ∧
  ∀ (s : State) (xs ys : List Byte), Inv s → s.linkClosed = false →
    ∃ t u v, exec (.rxslice xs) s = .next t ∧ exec (.rxslice ys) t = .next u ∧
      exec (.rxslice (xs ++ ys)) s = .next v ∧
      v = { u with sliceOut := t.sliceOut ++ u.sliceOut, ev := if ys = [] then t.ev else u.ev }

/-- R163: a slice of one byte or more is RXBYTE of its first byte and then the rest; its result is the list of the
non-NONE events in order. -/
def Obligations.SliceIsRxbyteInOrder : Prop :=
  ∀ (s : State) (b : Byte) (bs : List Byte), Inv s → s.linkClosed = false →
    ∃ t u v, exec (.rxbyte b) s = .next t ∧ exec (.rxslice bs) t = .next u ∧
      exec (.rxslice (b :: bs)) s = .next v ∧
      v = { u with sliceOut := t.ev.toList ++ u.sliceOut, ev := if bs = [] then t.ev else u.ev } ∧
      v.events = s.events ++ v.sliceOut

/-! ## The FRAME rows (spec/30_encoding.md) -/

/-- R80, R86, R159, R160 through the whole frame: FRAME.CONTROL is its bytes in order (log 15), and what that leaves when the
receiver is in IDLE. -/
def Obligations.ControlFrameDelivered : Prop :=
  ∀ (s : State) (body : List Byte) (ck : Byte),
    exec (.frameControl body ck) s = exec (.rxslice ([0xBE, 0xEF, 25, 101] ++ body ++ [ck])) s ∧
    (s.linkClosed = false → s.st = .idle → body.length = 24 → ck = cksum 25 (101 :: body) →
      ∃ t c, exec (.frameControl body ck) s = .next t ∧ ctlDecode (101 :: body) = some c ∧
        t = { s with
          cur := c
          ctlValid := true
          ev := .frame 101 (101 :: body)
          events := s.events ++ [.frame 101 (101 :: body)]
          sliceOut := [.frame 101 (101 :: body)]
          rxLen := t.rxLen, cnt := t.cnt, buf := t.buf, free := t.free }) ∧
    (s.linkClosed = false → s.st = .idle → body.length = 24 → ck ≠ cksum 25 (101 :: body) →
      ∃ t, exec (.frameControl body ck) s = .next t ∧
        t = { s with
          ev := .rejCksum 101 (cksum 25 (101 :: body)) ck
          events := s.events ++ [.rejCksum 101 (cksum 25 (101 :: body)) ck]
          sliceOut := [.rejCksum 101 (cksum 25 (101 :: body)) ck]
          rxLen := t.rxLen, cnt := t.cnt, buf := t.buf, free := t.free })

/-- R80, R85, R193, R194 through the whole frame: FRAME.HANDSHAKE is its bytes in order (log 15), and what that leaves when
the receiver is in IDLE. -/
def Obligations.HandshakeFrameDelivered : Prop :=
  ∀ (s : State) (m1 m2 m3 ck : Byte),
    exec (.frameHandshake m1 m2 m3 ck) s = exec (.rxslice [0xBE, 0xEF, 4, 0, m1, m2, m3, ck]) s ∧
    (s.linkClosed = false → s.st = .idle → ck = cksum 4 [0, m1, m2, m3] →
      ∃ t, exec (.frameHandshake m1 m2 m3 ck) s = .next t ∧
        t = { s with
          hs := if s.hs = .awaitingReply then
              (if m1 = 3 ∧ m2 = 1 ∧ m3 = 4 then .confirmed else .timedOut) else s.hs
          ev := .frame 0 [0, m1, m2, m3]
          events := s.events ++ [.frame 0 [0, m1, m2, m3]]
          sliceOut := [.frame 0 [0, m1, m2, m3]]
          rxLen := t.rxLen, cnt := t.cnt, buf := t.buf, free := t.free }) ∧
    (s.linkClosed = false → s.st = .idle → ck ≠ cksum 4 [0, m1, m2, m3] →
      ∃ t, exec (.frameHandshake m1 m2 m3 ck) s = .next t ∧
        t = { s with
          ev := .rejCksum 0 (cksum 4 [0, m1, m2, m3]) ck
          events := s.events ++ [.rejCksum 0 (cksum 4 [0, m1, m2, m3]) ck]
          sliceOut := [.rejCksum 0 (cksum 4 [0, m1, m2, m3]) ck]
          rxLen := t.rxLen, cnt := t.cnt, buf := t.buf, free := t.free })

/-- R83, R157, R55 with the decided registry (log 11): FRAME.TELEMETRY is its bytes in order (log 15); from IDLE it is rejected
at its id byte and the bytes after the id are scanned in IDLE. -/
def Obligations.TelemetryFrameRejectedAtId : Prop :=
  ∀ (s : State) (len : Byte) (body : List Byte) (ck : Byte),
    exec (.frameTelemetry len body ck) s = exec (.rxslice ([0xBE, 0xEF, len, 1] ++ body ++ [ck])) s ∧
    (Inv s → s.linkClosed = false → s.st = .idle → ∃ t u v, exec (.frameTelemetry len body ck) s = .next v ∧
      exec (.rxslice [0xBE, 0xEF, len, 1]) s = .next t ∧
      t = { s with
        rxLen := len
        cnt := 0
        ev := .rejSize 1 len 0
        events := s.events ++ [.rejSize 1 len 0]
        sliceOut := [.rejSize 1 len 0] } ∧
      exec (.rxslice (body ++ [ck])) t = .next u ∧
      v = { u with sliceOut := .rejSize 1 len 0 :: u.sliceOut })

/-! ## The Control decoder (spec/44_control_decoder.md) -/

/-- The exact value of an axis field at payload offset `k` (R216): `sext_16(p[k] + 256 * p[k+1])`. -/
def axisRawAt (p : List Byte) (k : Nat) : Int :=
  let v : Int := ((p.getD k 0).toNat + 256 * (p.getD (k + 1) 0).toNat : Nat)
  if v < 32768 then v else v - 65536

/-- R210 to R216: CTL_DECODE is total on its domain and gives each field its bits of the payload; outside its domain it has no
result. -/
def Obligations.CtlDecodeFieldByField : Prop :=
  (∀ p : List Byte, ¬(p.length = 25 ∧ p.head? = some 101) → ctlDecode p = none) ∧
  ∀ p : List Byte, p.length = 25 → p.head? = some 101 →
    ∃ c, ctlDecode p = some c ∧
      c.sas = decide (p.getD 1 0 &&& 0x80 ≠ 0) ∧ c.rcs = decide (p.getD 1 0 &&& 0x40 ≠ 0) ∧
      c.lights = decide (p.getD 1 0 &&& 0x20 ≠ 0) ∧ c.gear = decide (p.getD 1 0 &&& 0x10 ≠ 0) ∧
      c.brakes = decide (p.getD 1 0 &&& 0x08 ≠ 0) ∧ c.precision = decide (p.getD 1 0 &&& 0x04 ≠ 0) ∧
      c.abort = decide (p.getD 1 0 &&& 0x02 ≠ 0) ∧ c.stage = decide (p.getD 1 0 &&& 0x01 ≠ 0) ∧
      c.mode = p.getD 2 0 ∧
      c.controlGroup[0] = false ∧
      (∀ n : Fin 11, n ≠ 0 → c.controlGroup[n] =
        decide (((p.getD 3 0).toNat + 256 * (p.getD 4 0).toNat) / 2 ^ n.val % 2 = 1)) ∧
      c.autopilotMode.toNat = (p.getD 5 0).toNat % 16 ∧ c.speedMode.toNat = (p.getD 5 0).toNat / 16 ∧
      [c.pitch, c.roll, c.yaw, c.tx, c.ty, c.tz, c.wheelSteer, c.throttle, c.wheelThrottle].map (fun x => sext16 x.raw) =
        [7, 9, 11, 13, 15, 17, 19, 21, 23].map (axisRawAt p) ∧
      [c.pitch, c.roll, c.yaw, c.tx, c.ty, c.tz, c.wheelSteer, c.throttle, c.wheelThrottle].map Axis.value =
        [7, 9, 11, 13, 15, 17, 19, 21, 23].map fun k => (axisRawAt p k : Rat) / 1000

/-- R218: payloads that differ only in the reserved byte, in bit 0 of `p[3]` or in bits 3..7 of `p[4]` decode alike. -/
def Obligations.IgnoredBitsDoNotMatter : Prop :=
  ∀ p q : List Byte, p.length = 25 → q.length = 25 →
    (∀ k, k ∉ [3, 4, 6] → p.getD k 0 = q.getD k 0) →
    p.getD 3 0 &&& 0xFE = q.getD 3 0 &&& 0xFE → p.getD 4 0 &&& 0x07 = q.getD 4 0 &&& 0x07 →
    ctlDecode p = ctlDecode q

/-- R217: the values AXIS_FLOAT is known at (binary32 patterns of 0, 0.5, 1, -1). R217 gives the value 0 and not its sign:
that the pattern is that of the positive zero is the model's choice (log 23). -/
def Obligations.AxisFloatExactPoints : Prop :=
  axisFloat (BitVec.ofInt 16 0) = 0x00000000 ∧ axisFloat (BitVec.ofInt 16 500) = 0x3F000000 ∧
  axisFloat (BitVec.ofInt 16 1000) = 0x3F800000 ∧ axisFloat (BitVec.ofInt 16 (-1000)) = 0xBF800000

/-- The eight flag lanes: each tests its own bit of MainControls and writes its own flag of the model's record `dec`
(R211; that a FIELD row run alone writes `dec` is the model's choice, log 13). -/
def Obligations.FlagLanesTestOneBit : Prop :=
  ∀ (s : State) (f : Byte),
    exec (.ctlSas f) s = .next { s with dec := { s.dec with sas := decide (f &&& 0x80 ≠ 0) }, ev := .none } ∧
    exec (.ctlRcs f) s = .next { s with dec := { s.dec with rcs := decide (f &&& 0x40 ≠ 0) }, ev := .none } ∧
    exec (.ctlLights f) s = .next { s with dec := { s.dec with lights := decide (f &&& 0x20 ≠ 0) }, ev := .none } ∧
    exec (.ctlGear f) s = .next { s with dec := { s.dec with gear := decide (f &&& 0x10 ≠ 0) }, ev := .none } ∧
    exec (.ctlBrakes f) s = .next { s with dec := { s.dec with brakes := decide (f &&& 0x08 ≠ 0) }, ev := .none } ∧
    exec (.ctlPrecision f) s = .next { s with dec := { s.dec with precision := decide (f &&& 0x04 ≠ 0) }, ev := .none } ∧
    exec (.ctlAbort f) s = .next { s with dec := { s.dec with abort := decide (f &&& 0x02 ≠ 0) }, ev := .none } ∧
    exec (.ctlStage f) s = .next { s with dec := { s.dec with stage := decide (f &&& 0x01 ≠ 0) }, ev := .none }

/-- The ControlGroup lanes (R213; `dec` is the model's choice, log 13): each tests its own bit of the 16-bit field, and the
unused bits leave `control_group[0]` false. -/
def Obligations.GroupLanesTestOneBit : Prop :=
  ∀ (s : State) (f : Half),
    let put := fun (n : Fin 11) (v : Bool) => Host.Outcome.next (φ := Fault) (ρ := Refusal)
      { s with dec := { s.dec with controlGroup := s.dec.controlGroup.set n v }, ev := .none }
    exec (.ctlGroup1 f) s = put 1 (decide (f &&& 0x0002 ≠ 0)) ∧
    exec (.ctlGroup2 f) s = put 2 (decide (f &&& 0x0004 ≠ 0)) ∧
    exec (.ctlGroup3 f) s = put 3 (decide (f &&& 0x0008 ≠ 0)) ∧
    exec (.ctlGroup4 f) s = put 4 (decide (f &&& 0x0010 ≠ 0)) ∧
    exec (.ctlGroup5 f) s = put 5 (decide (f &&& 0x0020 ≠ 0)) ∧
    exec (.ctlGroup6 f) s = put 6 (decide (f &&& 0x0040 ≠ 0)) ∧
    exec (.ctlGroup7 f) s = put 7 (decide (f &&& 0x0080 ≠ 0)) ∧
    exec (.ctlGroup8 f) s = put 8 (decide (f &&& 0x0100 ≠ 0)) ∧
    exec (.ctlGroup9 f) s = put 9 (decide (f &&& 0x0200 ≠ 0)) ∧
    exec (.ctlGroup10 f) s = put 10 (decide (f &&& 0x0400 ≠ 0)) ∧
    exec (.ctlGroupUnused f) s = put 0 false

/-- The Mode byte, the two nibbles, the reserved byte and the handshake markers (R212, R214, R215, R218, R193; `dec` and
`hsArgs` are the model's choice, log 13). -/
def Obligations.ModeNibbleReservedMarkerLanes : Prop :=
  ∀ (s : State) (f : Byte),
    exec (.ctlMode f) s = .next { s with dec := { s.dec with mode := f }, ev := .none } ∧
    exec (.ctlAutopilotMode f) s =
      .next { s with dec := { s.dec with autopilotMode := BitVec.ofNat 4 (f.toNat % 16) }, ev := .none } ∧
    exec (.ctlSpeedMode f) s =
      .next { s with dec := { s.dec with speedMode := BitVec.ofNat 4 (f.toNat / 16) }, ev := .none } ∧
    exec (.ctlReserved f) s = .next { s with ev := .none } ∧
    exec (.hsMarker1 f) s = .next { s with hsArgs := { s.hsArgs with m1 := f }, ev := .none } ∧
    exec (.hsMarker2 f) s = .next { s with hsArgs := { s.hsArgs with m2 := f }, ev := .none } ∧
    exec (.hsMarker3 f) s = .next { s with hsArgs := { s.hsArgs with m3 := f }, ev := .none }

/-- The nine axis lanes (R216; `dec` is the model's choice, log 13): the raw field is kept and its value is the exact
quotient by 1000. -/
def Obligations.AxisLanesKeepRaw : Prop :=
  ∀ (s : State) (f : Half),
    (Axis.value ⟨f⟩ = (f.toInt : Rat) / 1000) ∧
    exec (.ctlPitch f) s = .next { s with dec := { s.dec with pitch := ⟨f⟩ }, ev := .none } ∧
    exec (.ctlRoll f) s = .next { s with dec := { s.dec with roll := ⟨f⟩ }, ev := .none } ∧
    exec (.ctlYaw f) s = .next { s with dec := { s.dec with yaw := ⟨f⟩ }, ev := .none } ∧
    exec (.ctlTx f) s = .next { s with dec := { s.dec with tx := ⟨f⟩ }, ev := .none } ∧
    exec (.ctlTy f) s = .next { s with dec := { s.dec with ty := ⟨f⟩ }, ev := .none } ∧
    exec (.ctlTz f) s = .next { s with dec := { s.dec with tz := ⟨f⟩ }, ev := .none } ∧
    exec (.ctlWheelSteer f) s = .next { s with dec := { s.dec with wheelSteer := ⟨f⟩ }, ev := .none } ∧
    exec (.ctlThrottle f) s = .next { s with dec := { s.dec with throttle := ⟨f⟩ }, ev := .none } ∧
    exec (.ctlWheelThrottle f) s = .next { s with dec := { s.dec with wheelThrottle := ⟨f⟩ }, ev := .none }

/-- R210: the FIELD rows, run over the fields of a Control payload from any record, leave exactly CTL_DECODE's record, and
nothing else of the block changes (the record `dec` is the model's choice, log 13). -/
def Obligations.FieldRowsTogetherAreCtlDecode : Prop :=
  ∀ (s : State) (p : List Byte), p.length = 25 → p.head? = some 101 →
    ∃ t, execAll (controlFieldRows p) s = .next t ∧ ctlDecode p = some t.dec ∧
      t = { s with dec := t.dec, ev := .none }

/-- R222: RECONCILE copies the whole record and nothing else; twice is once. -/
def Obligations.ReconcileCopiesCurToPrev : Prop :=
  ∀ s : State, exec .reconcile s = .next { s with prev := s.cur, ev := .none } ∧
    execAll [.reconcile, .reconcile] s = exec .reconcile s

/-- R223: READ_CONTROL returns the three as they stand and writes no state. -/
def Obligations.ReadControlReturnsPair : Prop :=
  ∀ s : State, exec .readControl s =
    .next { s with readOut := { cur := s.cur, prev := s.prev, valid := s.ctlValid }, ev := .none }

/-! ## Checksum and frame codec (spec/41_checksum.md, spec/40_frame_codec.md) -/

/-- R140: CKSUM returns the fold of the 0 to 255 bytes it is given and has no other effect. That it completes over more
bytes as well, its result left open, is the model's choice (log 22): R140 gives the function 0 to 255 bytes. -/
def Obligations.CksumReturnsXorFold : Prop :=
  ∀ (s : State) (len : Byte) (p : List Byte),
    ∃ c : Byte, exec (.cksum len p) s = .next { s with cksumOut := c, ev := .none } ∧
      (p.length ≤ 255 → c = p.foldl (· ^^^ ·) len)

/-- R142: the order of the fold does not matter. -/
def Obligations.CksumOrderDoesNotMatter : Prop :=
  ∀ (len : Byte) (p q : List Byte), p.Perm q → cksum len p = cksum len q ∧
    cksum len p = p.foldr (· ^^^ ·) len

/-- R143: the exclusive-or of LEN, the payload and the checksum of a framed payload is 0; and for any LEN, payload and
trailing byte the exclusive-or is 0 exactly where the trailing byte is the checksum, so a validator may test for zero. -/
def Obligations.FramedPayloadFoldsToZero : Prop :=
  (∀ p : List Byte, ((frameOf p).drop 2).foldl (· ^^^ ·) 0 = 0) ∧
  ∀ (len ck : Byte) (p : List Byte), (len :: (p ++ [ck])).foldl (· ^^^ ·) 0 = 0 ↔ ck = cksum len p

/-- R144: flipping one bit of LEN or of one payload byte flips exactly that bit of the fold. -/
def Obligations.OneFlippedBitChangesFold : Prop :=
  ∀ (len : Byte) (p : List Byte) (k : Nat), k < 8 →
    cksum (len ^^^ (1#8 <<< k)) p = cksum len p ^^^ (1#8 <<< k) ∧
    (∀ i, i < p.length → cksum len (p.set i (p.getD i 0 ^^^ (1#8 <<< k))) = cksum len p ^^^ (1#8 <<< k)) ∧
    cksum len p ^^^ (1#8 <<< k) ≠ cksum len p

/-- R121 with the decided registry: EXPECTED_LEN returns 4, 25 or 0. -/
def Obligations.ExpectedLenReturnsRegistry : Prop :=
  ∀ (s : State) (id : Byte), exec (.expectedLen id) s =
    .next { s with explenOut := if id = 0 then 4 else if id = 101 then 25 else 0, ev := .none }

/-- R120: ENCODE emits one whole frame, or raises ENC_FAIL with the first cause that holds and emits nothing. -/
def Obligations.EncodeEmitsFrameOrFails : Prop :=
  ∀ (s : State) (id : Byte) (p : List Byte),
    let fails := fun (c : EncCause) => Host.Outcome.next (φ := Fault) (ρ := Refusal)
      { s with ev := .encFail c, events := s.events ++ [.encFail c] }
    exec (.encodeFrame id p) s =
      if p.length > 255 then fails .lenOverflow
      else if p.length = 0 then fails .emptyPayload
      else if p.head? ≠ some id then fails .idMismatch
      else .next { s with
        tx := s.tx ++ ([0xBE, 0xEF, BitVec.ofNat 8 p.length] ++ p ++ [cksum (BitVec.ofNat 8 p.length) p])
        ev := .none }

/-- R123: what a successful ENCODE appends. -/
def Obligations.EncodedFrameLengthLaw : Prop :=
  ∀ (s t : State) (id : Byte) (p : List Byte), exec (.encodeFrame id p) s = .next t → t.ev = .none →
    ∃ f, t.tx = s.tx ++ f ∧ f.length = p.length + 4 ∧
      f[0]? = some 0xBE ∧ f[1]? = some 0xEF ∧ f[2]? = some (BitVec.ofNat 8 p.length) ∧
      (∀ i < p.length, f[3 + i]? = p[i]?) ∧ f[p.length + 3]? = some (cksum (BitVec.ofNat 8 p.length) p) ∧
      (f.drop 2).foldl (· ^^^ ·) 0 = 0

/-- R124: the round trip of a registered payload through the encoder and the receiver. -/
def Obligations.RegisteredPayloadRoundTrips : Prop :=
  ∀ (s : State) (id : Byte) (p : List Byte), s.linkClosed = false → s.st = .idle →
    expectedLen id ≠ 0 → p.length = (expectedLen id).toNat → p.head? = some id →
    ∃ t f u v, exec (.encodeFrame id p) s = .next t ∧ t = { s with tx := s.tx ++ f, ev := .none } ∧
      f.length = p.length + 4 ∧
      exec (.rxslice (f.take (p.length + 3))) t = .next u ∧ u.sliceOut = [] ∧
      exec (.rxslice (f.drop (p.length + 3))) u = .next v ∧ v.sliceOut = [.frame id p] ∧ v.st = .idle

/-! ## Telemetry and handshake (spec/45_telemetry_quantizer.md, spec/43_handshake.md) -/

/-- R240, R241, R248, over the real numbers: every real angle is an operand's (log 21), and QUANT of an operand that denotes
it is the nearest integer to 50 times it, a half by the tie rule, clamped. -/
def Obligations.QuantRoundsToNearestAndClamps : Prop :=
  ∀ (s : State) (x : ℝ), (∃ a, angleDenotes a x) ∧
    ∀ a, angleDenotes a x → ∃ (r : Int) (t : State), exec (.quant a) s = .next t ∧
      |x * 50 - r| ≤ 1 / 2 ∧
      (|x * 50 - r| = 1 / 2 →
        (Config.quantTieRule = .halfAway → |x * 50| < |(r : ℝ)|) ∧ (Config.quantTieRule = .halfEven → r % 2 = 0)) ∧
      t.quantOut.toInt = (if r > 32767 then 32767 else if r < -32768 then -32768 else r) ∧
      t = { s with quantOut := t.quantOut, ev := .none }

/-- R243: the special floats; a NaN is refused. -/
def Obligations.QuantSpecialFloats : Prop :=
  ∀ s : State,
    exec (.quant .posInf) s = .next { s with quantOut := 0x7FFF, ev := .none } ∧
    exec (.quant .negInf) s = .next { s with quantOut := 0x8000, ev := .none } ∧
    exec (.quant .negZero) s = .next { s with quantOut := 0, ev := .none } ∧
    exec (.quant .nan) s = .refused .quantNaN

/-- R241, over the real numbers: rounding is symmetric, and the quantizer is monotone (so it depends on the real number
alone), under either tie rule. -/
def Obligations.QuantSymmetricAndMonotone : Prop :=
  ∀ tie : TieRule,
    (∀ a b x, angleDenotes a x → angleDenotes b (-x) → ∃ r, roundAngle tie a = some r ∧ roundAngle tie b = some (-r)) ∧
    ∀ a b x y, angleDenotes a x → angleDenotes b y → x ≤ y →
      ∃ p q, quantWith tie a = some p ∧ quantWith tie b = some q ∧ p.toInt ≤ q.toInt

/-- R246: a payload of another length than `TELEMETRY_LEN` raises ENC_FAIL(LEN_MISMATCH); one of that length is
ENCODE(1, t), which fails only where the first byte is not 1. -/
def Obligations.TlmSendFramesOnlyExactLength : Prop :=
  ∀ (s : State) (x : List Byte),
    let fails := fun (c : EncCause) => Host.Outcome.next (φ := Fault) (ρ := Refusal)
      { s with ev := .encFail c, events := s.events ++ [.encFail c] }
    (x.length = Config.telemetryLen.toNat → exec (.tlmSend x) s = exec (.encodeFrame 1 x) s) ∧
    exec (.tlmSend x) s =
      if x.length ≠ Config.telemetryLen.toNat then fails .lenMismatch
      else if x.head? ≠ some 1 then fails .idMismatch
      else .next { s with
        tx := s.tx ++ ([0xBE, 0xEF, BitVec.ofNat 8 x.length] ++ x ++ [cksum (BitVec.ofNat 8 x.length) x])
        ev := .none }

/-- R191. -/
def Obligations.HsStartSendsChallenge : Prop :=
  ∀ s : State,
    (s.hs = .notStarted → exec .hsStart s =
      .next { s with
        tx := s.tx ++ [0xBE, 0xEF, 0x04, 0x00, 0x01, 0x02, 0x03, 0x04]
        hs := .awaitingReply
        hsAtt := 0
        ev := .none }) ∧
    (s.hs ≠ .notStarted → exec .hsStart s = .refused .handshakeStarted)

/-- R192. -/
def Obligations.HsPollCountsTheBudget : Prop :=
  ∀ s : State,
    (s.hs ≠ .awaitingReply → exec .hsPoll s = .next { s with ev := .none }) ∧
    (s.hs = .awaitingReply → s.hsAtt + 1 ≥ Config.hsMaxAttempts → exec .hsPoll s =
      .next { s with
        hsAtt := Config.hsMaxAttempts
        hs := .timedOut
        ev := .hsTimeout
        events := s.events ++ [.hsTimeout] }) ∧
    (s.hs = .awaitingReply → s.hsAtt + 1 < Config.hsMaxAttempts → exec .hsPoll s =
      .next { s with hsAtt := s.hsAtt + 1, ev := .none })

/-- R190: Confirmed and TimedOut are left only by RESET, OPEN or CLOSE. -/
def Obligations.HandshakeOutcomeIsTerminal : Prop :=
  ∀ (i : Instr) (s t : State), (s.hs = .confirmed ∨ s.hs = .timedOut) →
    i ∉ [Instr.resetBlock, .openLink, .closeLink] → exec i s = .next t → t.hs = s.hs

/-! ## Reset, open, close (spec/70_reset_and_hazards.md, spec/10_state.md) -/

/-- R36: the values the spec gives for reset. -/
def Obligations.ResetStateValues : Prop :=
  State.reset.st = .idle ∧ State.reset.ctlValid = false ∧ State.reset.hs = .notStarted ∧ State.reset.hsAtt = 0 ∧
  State.reset.ev = .none ∧
  ∀ c ∈ [State.reset.cur, State.reset.prev],
    [c.sas, c.rcs, c.lights, c.gear, c.brakes, c.precision, c.abort, c.stage] = List.replicate 8 false ∧
    c.mode = 0 ∧ (∀ n : Fin 11, c.controlGroup[n] = false) ∧ c.autopilotMode = 0 ∧ c.speedMode = 0 ∧
    [c.pitch, c.roll, c.yaw, c.tx, c.ty, c.tz, c.wheelSteer, c.throttle, c.wheelThrottle].map Axis.raw =
      List.replicate 9 0

/-- R300: the writes of RESET; `rx_len`, `cnt` and `buf` are left open, nothing is emitted, event NONE. -/
def Obligations.ResetWritesResetValues : Prop :=
  ∀ s : State, ∃ t, exec .resetBlock s = .next t ∧
    t = { s with
      st := .idle, cur := zeroControl, prev := zeroControl, ctlValid := false, hs := .notStarted, hsAtt := 0
      ev := .none
      rxLen := t.rxLen, cnt := t.cnt, buf := t.buf, free := t.free }

/-- R301: the writes of RESET, and from this step received bytes are taken. -/
def Obligations.OpenResetsAndTakesBytes : Prop :=
  ∀ s : State, ∃ t, exec .openLink s = .next t ∧
    t = { s with
      st := .idle, cur := zeroControl, prev := zeroControl, ctlValid := false, hs := .notStarted, hsAtt := 0
      ev := .none
      linkClosed := false
      rxLen := t.rxLen, cnt := t.cnt, buf := t.buf, free := t.free } ∧
    ∀ b, ∃ u, exec (.rxbyte b) t = .next u

/-- R302, R271: the writes of RESET, and from this step received bytes are refused until the next OPEN. (That a RESET in
between does not end this is the model's choice, log 7.) -/
def Obligations.CloseResetsAndRefusesBytes : Prop :=
  ∀ s : State, ∃ t, exec .closeLink s = .next t ∧
    t = { s with
      st := .idle, cur := zeroControl, prev := zeroControl, ctlValid := false, hs := .notStarted, hsAtt := 0
      ev := .none
      linkClosed := true
      rxLen := t.rxLen, cnt := t.cnt, buf := t.buf, free := t.free } ∧
    ∀ (is : List Instr) (u : State), Instr.openLink ∉ is → execAll is t = .next u →
      ∀ b, exec (.rxbyte b) u = .refused .linkClosed

/-! ## Whole-machine rules -/

/-- R273, R275: a reject moves `st` to IDLE, raises its one event, and leaves every other register (the buffer, which
becomes meaningless, is left open). -/
def Obligations.RejectChangesOnlySt : Prop :=
  ∀ (s t : State) (b : Byte), exec (.rxbyte b) s = .next t →
    (∀ id p, t.ev ≠ .frame id p) → t.ev ≠ .none →
    t = { s with st := .idle, ev := t.ev, events := s.events ++ [t.ev], buf := t.buf, free := t.free }

/-- R275, R38, R168: `ctl.cur` changes only by RESET, OPEN, CLOSE or a completed Control frame, which writes the whole
record decoded from the payload its FRAME event carries. -/
def Obligations.CurWrittenOnlyByControlFrame : Prop :=
  ∀ (i : Instr) (s t : State), i ∉ [Instr.resetBlock, .openLink, .closeLink] → exec i s = .next t →
    t.cur = s.cur ∨
      ∃ p, Event.frame 101 p ∈ t.events.drop s.events.length ∧ ctlDecode p = some t.cur

/-- R221, R29: `ctl.prev` changes only by RECONCILE (RESET, OPEN and CLOSE apart). -/
def Obligations.PrevWrittenOnlyByReconcile : Prop :=
  ∀ (i : Instr) (s t : State), i ∉ [Instr.resetBlock, .openLink, .closeLink, .reconcile] → exec i s = .next t →
    t.prev = s.prev

/-- R64, R168: the TX stream grows only by whole frames, one in a step, and only by ENCODE, TLM_SEND and HS_START. -/
def Obligations.TxGrowsByWholeFrames : Prop :=
  ∀ (i : Instr) (s t : State), exec i s = .next t →
    t.tx = s.tx ∨ ∃ p : List Byte, t.tx = s.tx ++ frameOf p ∧ 1 ≤ p.length ∧ p.length ≤ 255 ∧
      (i = .encodeFrame (p.headD 0) p ∨ i = .tlmSend p ∨ (i = .hsStart ∧ p = [0, 1, 2, 3]))

/-- R161, R66, R302: apart from RESET, OPEN and CLOSE no host operation changes the receiver's registers, no operation at all
changes what is still to be presented, and only OPEN and CLOSE change whether received bytes are taken (log 7). -/
def Obligations.HostLeavesReceiverAlone : Prop :=
  ∀ (i : Instr) (s t : State), exec i s = .next t → t.pending = s.pending ∧
    (i ∉ [Instr.openLink, .closeLink] → t.linkClosed = s.linkClosed) ∧
    (i.agent = .host → i ∉ [Instr.resetBlock, .openLink, .closeLink] →
      t.st = s.st ∧ t.rxLen = s.rxLen ∧ t.cnt = s.cnt ∧ t.buf = s.buf)

/-- R30, R168: one operation raises one event; the event sequence grows by it unless it is NONE. (RXSLICE and the FRAME
rows are several operations, log 15.) -/
def Obligations.OneOperationRaisesOneEvent : Prop :=
  ∀ (i : Instr) (s t : State), i.format ≠ .frame → (∀ bs, i ≠ .rxslice bs) → exec i s = .next t →
    t.events = s.events ++ t.ev.toList

/-- R167 with the decided registry: from any state of the invariant at most 29 bytes return the receiver to IDLE or raise
an event. -/
def Obligations.ReceiverReturnsWithinOneFrame : Prop :=
  ∀ (s : State) (bs : List Byte), Inv s → s.linkClosed = false → bs.length = 29 →
    ∃ k t, 1 ≤ k ∧ k ≤ 29 ∧ exec (.rxslice (bs.take k)) s = .next t ∧ (t.st = .idle ∨ t.sliceOut ≠ [])

/-! ## Encoding and the step -/

/-- Decoding an encoded well-formed instruction gives it back. -/
def Obligations.DecodeOfEncodeIsSelf : Prop :=
  ∀ i : Instr, i.wellFormed = true → decode (encode i) = .ok i

/-- The decoder answers only well-formed instructions. -/
def Obligations.DecodedIsWellFormed : Prop :=
  ∀ (x : Transaction) (i : Instr), decode x = .ok i → i.wellFormed = true

/-- R96, R99: some words of the table, written out. -/
def Obligations.TableWordsDecode : Prop :=
  decode (.frame [0xBE, 0xEF, 0x04, 0x00, 0x03, 0x01, 0x04, 0x02]) = .ok (.frameHandshake 3 1 4 2) ∧
  decode (.rxRow .idle 1 0xBE) = .ok .idleBe ∧
  decode (.rxRow .sync 2 0xBE) = .ok (.syncMiss 0xBE) ∧
  decode (.field .control 3 0x0400 [0x00, 0x04]) = .ok (.ctlGroup10 0x0400) ∧
  decode (.cmd 0x3 { byte := 0x65 }) = .ok (.rxbyte 0x65) ∧
  decode (.strobe 0x65) = .ok (.rxbyte 0x65) ∧
  decode (.cmd 0xD {}) = .ok .hsPoll ∧
  decode (.cmd 0xE {}) = .error (.unassignedCmd 0xE)

/-- R8, R96: a step takes the next presented operation and runs what it decodes to; an undecodable one is refused; with
none presented the block stays as it is (log 2). -/
def Obligations.StepRunsDecodedInstruction : Prop :=
  (∀ (s : State) (x : Transaction) (xs : List Transaction) (i : Instr), s.pending = x :: xs → decode x = .ok i →
    step s = exec i { s with pending := xs }) ∧
  (∀ (s : State) (x : Transaction) (xs : List Transaction) (e : DecodeError), s.pending = x :: xs →
    decode x = .error e → step s = .refused (.undecodable e)) ∧
  (∀ s : State, s.pending = [] → step s = .next s)

/-! ## Invariant and unspecified values -/

/-- R27 holds after reset, with the rest of the invariant. -/
def Obligations.InvariantHoldsAtReset : Prop := Inv State.reset

/-- R27: every step keeps the invariant. -/
def Obligations.EveryStepKeepsInvariant : Prop :=
  ∀ s t : State, Inv s → step s = .next t → Inv t

/-- U1 (R24, R36, R159): nothing a host can see depends on an unspecified value. Two states of the invariant that differ
only in unspecified values take the same steps, to states that again differ only in unspecified values. -/
def Obligations.UnspecifiedValuesNeverShow : Prop :=
  ∀ s s' : State, Inv s → Inv s' → SameMeaning s s' →
    observe s' = observe s ∧
    (∀ t, step s = .next t → ∃ t', step s' = .next t' ∧ SameMeaning t t') ∧
    (∀ r, step s = .refused r → step s' = .refused r) ∧
    (∀ f, step s ≠ .fault f)
end

