-- ==== Sys2Proof/Laws/State.lean ====
section
/-! SUPPORT. What each shared update of State leaves in each field, by rfl. -/

namespace Sys2Proof.Machine

@[simp] theorem raise_st (e : Event) (s : State) : (raise e s).st = s.st := rfl
@[simp] theorem raise_rxLen (e : Event) (s : State) : (raise e s).rxLen = s.rxLen := rfl
@[simp] theorem raise_cnt (e : Event) (s : State) : (raise e s).cnt = s.cnt := rfl
@[simp] theorem raise_buf (e : Event) (s : State) : (raise e s).buf = s.buf := rfl
@[simp] theorem raise_cur (e : Event) (s : State) : (raise e s).cur = s.cur := rfl
@[simp] theorem raise_prev (e : Event) (s : State) : (raise e s).prev = s.prev := rfl
@[simp] theorem raise_ctlValid (e : Event) (s : State) : (raise e s).ctlValid = s.ctlValid := rfl
@[simp] theorem raise_hs (e : Event) (s : State) : (raise e s).hs = s.hs := rfl
@[simp] theorem raise_hsAtt (e : Event) (s : State) : (raise e s).hsAtt = s.hsAtt := rfl
@[simp] theorem raise_ev (e : Event) (s : State) : (raise e s).ev = e := rfl
@[simp] theorem raise_events (e : Event) (s : State) : (raise e s).events = s.events ++ e.toList := rfl
@[simp] theorem raise_tx (e : Event) (s : State) : (raise e s).tx = s.tx := rfl
@[simp] theorem raise_pending (e : Event) (s : State) : (raise e s).pending = s.pending := rfl
@[simp] theorem raise_quantOut (e : Event) (s : State) : (raise e s).quantOut = s.quantOut := rfl
@[simp] theorem raise_cksumOut (e : Event) (s : State) : (raise e s).cksumOut = s.cksumOut := rfl
@[simp] theorem raise_explenOut (e : Event) (s : State) : (raise e s).explenOut = s.explenOut := rfl
@[simp] theorem raise_readOut (e : Event) (s : State) : (raise e s).readOut = s.readOut := rfl
@[simp] theorem raise_sliceOut (e : Event) (s : State) : (raise e s).sliceOut = s.sliceOut := rfl
@[simp] theorem raise_linkClosed (e : Event) (s : State) : (raise e s).linkClosed = s.linkClosed := rfl
@[simp] theorem raise_dec (e : Event) (s : State) : (raise e s).dec = s.dec := rfl
@[simp] theorem raise_hsArgs (e : Event) (s : State) : (raise e s).hsArgs = s.hsArgs := rfl
@[simp] theorem raise_free (e : Event) (s : State) : (raise e s).free = s.free := rfl

@[simp] theorem emitTx_st (bs : List Byte) (s : State) : (emitTx bs s).st = s.st := rfl
@[simp] theorem emitTx_rxLen (bs : List Byte) (s : State) : (emitTx bs s).rxLen = s.rxLen := rfl
@[simp] theorem emitTx_cnt (bs : List Byte) (s : State) : (emitTx bs s).cnt = s.cnt := rfl
@[simp] theorem emitTx_buf (bs : List Byte) (s : State) : (emitTx bs s).buf = s.buf := rfl
@[simp] theorem emitTx_cur (bs : List Byte) (s : State) : (emitTx bs s).cur = s.cur := rfl
@[simp] theorem emitTx_prev (bs : List Byte) (s : State) : (emitTx bs s).prev = s.prev := rfl
@[simp] theorem emitTx_ctlValid (bs : List Byte) (s : State) : (emitTx bs s).ctlValid = s.ctlValid := rfl
@[simp] theorem emitTx_hs (bs : List Byte) (s : State) : (emitTx bs s).hs = s.hs := rfl
@[simp] theorem emitTx_hsAtt (bs : List Byte) (s : State) : (emitTx bs s).hsAtt = s.hsAtt := rfl
@[simp] theorem emitTx_ev (bs : List Byte) (s : State) : (emitTx bs s).ev = s.ev := rfl
@[simp] theorem emitTx_events (bs : List Byte) (s : State) : (emitTx bs s).events = s.events := rfl
@[simp] theorem emitTx_tx (bs : List Byte) (s : State) : (emitTx bs s).tx = s.tx ++ bs := rfl
@[simp] theorem emitTx_pending (bs : List Byte) (s : State) : (emitTx bs s).pending = s.pending := rfl
@[simp] theorem emitTx_quantOut (bs : List Byte) (s : State) : (emitTx bs s).quantOut = s.quantOut := rfl
@[simp] theorem emitTx_cksumOut (bs : List Byte) (s : State) : (emitTx bs s).cksumOut = s.cksumOut := rfl
@[simp] theorem emitTx_explenOut (bs : List Byte) (s : State) : (emitTx bs s).explenOut = s.explenOut := rfl
@[simp] theorem emitTx_readOut (bs : List Byte) (s : State) : (emitTx bs s).readOut = s.readOut := rfl
@[simp] theorem emitTx_sliceOut (bs : List Byte) (s : State) : (emitTx bs s).sliceOut = s.sliceOut := rfl
@[simp] theorem emitTx_linkClosed (bs : List Byte) (s : State) : (emitTx bs s).linkClosed = s.linkClosed := rfl
@[simp] theorem emitTx_dec (bs : List Byte) (s : State) : (emitTx bs s).dec = s.dec := rfl
@[simp] theorem emitTx_hsArgs (bs : List Byte) (s : State) : (emitTx bs s).hsArgs = s.hsArgs := rfl
@[simp] theorem emitTx_free (bs : List Byte) (s : State) : (emitTx bs s).free = s.free := rfl

@[simp] theorem reject_st (e : Event) (s : State) : (reject e s).st = .idle := rfl
@[simp] theorem reject_rxLen (e : Event) (s : State) : (reject e s).rxLen = s.rxLen := rfl
@[simp] theorem reject_cnt (e : Event) (s : State) : (reject e s).cnt = s.cnt := rfl
@[simp] theorem reject_buf (e : Event) (s : State) : (reject e s).buf = s.buf := rfl
@[simp] theorem reject_cur (e : Event) (s : State) : (reject e s).cur = s.cur := rfl
@[simp] theorem reject_prev (e : Event) (s : State) : (reject e s).prev = s.prev := rfl
@[simp] theorem reject_ctlValid (e : Event) (s : State) : (reject e s).ctlValid = s.ctlValid := rfl
@[simp] theorem reject_hs (e : Event) (s : State) : (reject e s).hs = s.hs := rfl
@[simp] theorem reject_hsAtt (e : Event) (s : State) : (reject e s).hsAtt = s.hsAtt := rfl
@[simp] theorem reject_ev (e : Event) (s : State) : (reject e s).ev = e := rfl
@[simp] theorem reject_events (e : Event) (s : State) : (reject e s).events = s.events ++ e.toList := rfl
@[simp] theorem reject_tx (e : Event) (s : State) : (reject e s).tx = s.tx := rfl
@[simp] theorem reject_pending (e : Event) (s : State) : (reject e s).pending = s.pending := rfl
@[simp] theorem reject_quantOut (e : Event) (s : State) : (reject e s).quantOut = s.quantOut := rfl
@[simp] theorem reject_cksumOut (e : Event) (s : State) : (reject e s).cksumOut = s.cksumOut := rfl
@[simp] theorem reject_explenOut (e : Event) (s : State) : (reject e s).explenOut = s.explenOut := rfl
@[simp] theorem reject_readOut (e : Event) (s : State) : (reject e s).readOut = s.readOut := rfl
@[simp] theorem reject_sliceOut (e : Event) (s : State) : (reject e s).sliceOut = s.sliceOut := rfl
@[simp] theorem reject_linkClosed (e : Event) (s : State) : (reject e s).linkClosed = s.linkClosed := rfl
@[simp] theorem reject_dec (e : Event) (s : State) : (reject e s).dec = s.dec := rfl
@[simp] theorem reject_hsArgs (e : Event) (s : State) : (reject e s).hsArgs = s.hsArgs := rfl
@[simp] theorem reject_free (e : Event) (s : State) : (reject e s).free = s.free := rfl

@[simp] theorem discardBuf_st (s : State) : (discardBuf s).st = s.st := rfl
@[simp] theorem discardBuf_rxLen (s : State) : (discardBuf s).rxLen = s.rxLen := rfl
@[simp] theorem discardBuf_cnt (s : State) : (discardBuf s).cnt = s.cnt := rfl
@[simp] theorem discardBuf_buf (s : State) : (discardBuf s).buf = freeBuffer s.free := rfl
@[simp] theorem discardBuf_cur (s : State) : (discardBuf s).cur = s.cur := rfl
@[simp] theorem discardBuf_prev (s : State) : (discardBuf s).prev = s.prev := rfl
@[simp] theorem discardBuf_ctlValid (s : State) : (discardBuf s).ctlValid = s.ctlValid := rfl
@[simp] theorem discardBuf_hs (s : State) : (discardBuf s).hs = s.hs := rfl
@[simp] theorem discardBuf_hsAtt (s : State) : (discardBuf s).hsAtt = s.hsAtt := rfl
@[simp] theorem discardBuf_ev (s : State) : (discardBuf s).ev = s.ev := rfl
@[simp] theorem discardBuf_events (s : State) : (discardBuf s).events = s.events := rfl
@[simp] theorem discardBuf_tx (s : State) : (discardBuf s).tx = s.tx := rfl
@[simp] theorem discardBuf_pending (s : State) : (discardBuf s).pending = s.pending := rfl
@[simp] theorem discardBuf_quantOut (s : State) : (discardBuf s).quantOut = s.quantOut := rfl
@[simp] theorem discardBuf_cksumOut (s : State) : (discardBuf s).cksumOut = s.cksumOut := rfl
@[simp] theorem discardBuf_explenOut (s : State) : (discardBuf s).explenOut = s.explenOut := rfl
@[simp] theorem discardBuf_readOut (s : State) : (discardBuf s).readOut = s.readOut := rfl
@[simp] theorem discardBuf_sliceOut (s : State) : (discardBuf s).sliceOut = s.sliceOut := rfl
@[simp] theorem discardBuf_linkClosed (s : State) : (discardBuf s).linkClosed = s.linkClosed := rfl
@[simp] theorem discardBuf_dec (s : State) : (discardBuf s).dec = s.dec := rfl
@[simp] theorem discardBuf_hsArgs (s : State) : (discardBuf s).hsArgs = s.hsArgs := rfl
@[simp] theorem discardBuf_free (s : State) : (discardBuf s).free = s.free + Config.bufSize := rfl

@[simp] theorem forgetFrame_st (s : State) : (forgetFrame s).st = s.st := rfl
@[simp] theorem forgetFrame_rxLen (s : State) : (forgetFrame s).rxLen = Config.freeByte s.free := rfl
@[simp] theorem forgetFrame_cnt (s : State) : (forgetFrame s).cnt = (Config.freeByte (s.free + 1)).toNat := rfl
@[simp] theorem forgetFrame_buf (s : State) : (forgetFrame s).buf = freeBuffer (s.free + 2) := rfl
@[simp] theorem forgetFrame_cur (s : State) : (forgetFrame s).cur = s.cur := rfl
@[simp] theorem forgetFrame_prev (s : State) : (forgetFrame s).prev = s.prev := rfl
@[simp] theorem forgetFrame_ctlValid (s : State) : (forgetFrame s).ctlValid = s.ctlValid := rfl
@[simp] theorem forgetFrame_hs (s : State) : (forgetFrame s).hs = s.hs := rfl
@[simp] theorem forgetFrame_hsAtt (s : State) : (forgetFrame s).hsAtt = s.hsAtt := rfl
@[simp] theorem forgetFrame_ev (s : State) : (forgetFrame s).ev = s.ev := rfl
@[simp] theorem forgetFrame_events (s : State) : (forgetFrame s).events = s.events := rfl
@[simp] theorem forgetFrame_tx (s : State) : (forgetFrame s).tx = s.tx := rfl
@[simp] theorem forgetFrame_pending (s : State) : (forgetFrame s).pending = s.pending := rfl
@[simp] theorem forgetFrame_quantOut (s : State) : (forgetFrame s).quantOut = s.quantOut := rfl
@[simp] theorem forgetFrame_cksumOut (s : State) : (forgetFrame s).cksumOut = s.cksumOut := rfl
@[simp] theorem forgetFrame_explenOut (s : State) : (forgetFrame s).explenOut = s.explenOut := rfl
@[simp] theorem forgetFrame_readOut (s : State) : (forgetFrame s).readOut = s.readOut := rfl
@[simp] theorem forgetFrame_sliceOut (s : State) : (forgetFrame s).sliceOut = s.sliceOut := rfl
@[simp] theorem forgetFrame_linkClosed (s : State) : (forgetFrame s).linkClosed = s.linkClosed := rfl
@[simp] theorem forgetFrame_dec (s : State) : (forgetFrame s).dec = s.dec := rfl
@[simp] theorem forgetFrame_hsArgs (s : State) : (forgetFrame s).hsArgs = s.hsArgs := rfl
@[simp] theorem forgetFrame_free (s : State) : (forgetFrame s).free = s.free + 2 + Config.bufSize := rfl

@[simp] theorem resetWrites_st (s : State) : (resetWrites s).st = .idle := rfl
@[simp] theorem resetWrites_rxLen (s : State) : (resetWrites s).rxLen = Config.freeByte s.free := rfl
@[simp] theorem resetWrites_cnt (s : State) : (resetWrites s).cnt = (Config.freeByte (s.free + 1)).toNat := rfl
@[simp] theorem resetWrites_buf (s : State) : (resetWrites s).buf = freeBuffer (s.free + 2) := rfl
@[simp] theorem resetWrites_cur (s : State) : (resetWrites s).cur = zeroControl := rfl
@[simp] theorem resetWrites_prev (s : State) : (resetWrites s).prev = zeroControl := rfl
@[simp] theorem resetWrites_ctlValid (s : State) : (resetWrites s).ctlValid = false := rfl
@[simp] theorem resetWrites_hs (s : State) : (resetWrites s).hs = .notStarted := rfl
@[simp] theorem resetWrites_hsAtt (s : State) : (resetWrites s).hsAtt = 0 := rfl
@[simp] theorem resetWrites_ev (s : State) : (resetWrites s).ev = s.ev := rfl
@[simp] theorem resetWrites_events (s : State) : (resetWrites s).events = s.events := rfl
@[simp] theorem resetWrites_tx (s : State) : (resetWrites s).tx = s.tx := rfl
@[simp] theorem resetWrites_pending (s : State) : (resetWrites s).pending = s.pending := rfl
@[simp] theorem resetWrites_quantOut (s : State) : (resetWrites s).quantOut = s.quantOut := rfl
@[simp] theorem resetWrites_cksumOut (s : State) : (resetWrites s).cksumOut = s.cksumOut := rfl
@[simp] theorem resetWrites_explenOut (s : State) : (resetWrites s).explenOut = s.explenOut := rfl
@[simp] theorem resetWrites_readOut (s : State) : (resetWrites s).readOut = s.readOut := rfl
@[simp] theorem resetWrites_sliceOut (s : State) : (resetWrites s).sliceOut = s.sliceOut := rfl
@[simp] theorem resetWrites_linkClosed (s : State) : (resetWrites s).linkClosed = s.linkClosed := rfl
@[simp] theorem resetWrites_dec (s : State) : (resetWrites s).dec = s.dec := rfl
@[simp] theorem resetWrites_hsArgs (s : State) : (resetWrites s).hsArgs = s.hsArgs := rfl
@[simp] theorem resetWrites_free (s : State) : (resetWrites s).free = s.free + 2 + Config.bufSize := rfl

@[simp] theorem handshakeReply_st (m1 m2 m3 : Byte) (s : State) : (handshakeReply m1 m2 m3 s).st = s.st := rfl
@[simp] theorem handshakeReply_rxLen (m1 m2 m3 : Byte) (s : State) : (handshakeReply m1 m2 m3 s).rxLen = s.rxLen := rfl
@[simp] theorem handshakeReply_cnt (m1 m2 m3 : Byte) (s : State) : (handshakeReply m1 m2 m3 s).cnt = s.cnt := rfl
@[simp] theorem handshakeReply_buf (m1 m2 m3 : Byte) (s : State) : (handshakeReply m1 m2 m3 s).buf = s.buf := rfl
@[simp] theorem handshakeReply_cur (m1 m2 m3 : Byte) (s : State) : (handshakeReply m1 m2 m3 s).cur = s.cur := rfl
@[simp] theorem handshakeReply_prev (m1 m2 m3 : Byte) (s : State) : (handshakeReply m1 m2 m3 s).prev = s.prev := rfl
@[simp] theorem handshakeReply_ctlValid (m1 m2 m3 : Byte) (s : State) : (handshakeReply m1 m2 m3 s).ctlValid = s.ctlValid := rfl
@[simp] theorem handshakeReply_hs (m1 m2 m3 : Byte) (s : State) : (handshakeReply m1 m2 m3 s).hs = replyOutcome m1 m2 m3 := rfl
@[simp] theorem handshakeReply_hsAtt (m1 m2 m3 : Byte) (s : State) : (handshakeReply m1 m2 m3 s).hsAtt = s.hsAtt := rfl
@[simp] theorem handshakeReply_ev (m1 m2 m3 : Byte) (s : State) : (handshakeReply m1 m2 m3 s).ev = s.ev := rfl
@[simp] theorem handshakeReply_events (m1 m2 m3 : Byte) (s : State) : (handshakeReply m1 m2 m3 s).events = s.events := rfl
@[simp] theorem handshakeReply_tx (m1 m2 m3 : Byte) (s : State) : (handshakeReply m1 m2 m3 s).tx = s.tx := rfl
@[simp] theorem handshakeReply_pending (m1 m2 m3 : Byte) (s : State) : (handshakeReply m1 m2 m3 s).pending = s.pending := rfl
@[simp] theorem handshakeReply_quantOut (m1 m2 m3 : Byte) (s : State) : (handshakeReply m1 m2 m3 s).quantOut = s.quantOut := rfl
@[simp] theorem handshakeReply_cksumOut (m1 m2 m3 : Byte) (s : State) : (handshakeReply m1 m2 m3 s).cksumOut = s.cksumOut := rfl
@[simp] theorem handshakeReply_explenOut (m1 m2 m3 : Byte) (s : State) : (handshakeReply m1 m2 m3 s).explenOut = s.explenOut := rfl
@[simp] theorem handshakeReply_readOut (m1 m2 m3 : Byte) (s : State) : (handshakeReply m1 m2 m3 s).readOut = s.readOut := rfl
@[simp] theorem handshakeReply_sliceOut (m1 m2 m3 : Byte) (s : State) : (handshakeReply m1 m2 m3 s).sliceOut = s.sliceOut := rfl
@[simp] theorem handshakeReply_linkClosed (m1 m2 m3 : Byte) (s : State) : (handshakeReply m1 m2 m3 s).linkClosed = s.linkClosed := rfl
@[simp] theorem handshakeReply_dec (m1 m2 m3 : Byte) (s : State) : (handshakeReply m1 m2 m3 s).dec = s.dec := rfl
@[simp] theorem handshakeReply_hsArgs (m1 m2 m3 : Byte) (s : State) : (handshakeReply m1 m2 m3 s).hsArgs = s.hsArgs := rfl
@[simp] theorem handshakeReply_free (m1 m2 m3 : Byte) (s : State) : (handshakeReply m1 m2 m3 s).free = s.free := rfl

@[simp] theorem noteSliceEvent_st (s : State) : (noteSliceEvent s).st = s.st := rfl
@[simp] theorem noteSliceEvent_rxLen (s : State) : (noteSliceEvent s).rxLen = s.rxLen := rfl
@[simp] theorem noteSliceEvent_cnt (s : State) : (noteSliceEvent s).cnt = s.cnt := rfl
@[simp] theorem noteSliceEvent_buf (s : State) : (noteSliceEvent s).buf = s.buf := rfl
@[simp] theorem noteSliceEvent_cur (s : State) : (noteSliceEvent s).cur = s.cur := rfl
@[simp] theorem noteSliceEvent_prev (s : State) : (noteSliceEvent s).prev = s.prev := rfl
@[simp] theorem noteSliceEvent_ctlValid (s : State) : (noteSliceEvent s).ctlValid = s.ctlValid := rfl
@[simp] theorem noteSliceEvent_hs (s : State) : (noteSliceEvent s).hs = s.hs := rfl
@[simp] theorem noteSliceEvent_hsAtt (s : State) : (noteSliceEvent s).hsAtt = s.hsAtt := rfl
@[simp] theorem noteSliceEvent_ev (s : State) : (noteSliceEvent s).ev = s.ev := rfl
@[simp] theorem noteSliceEvent_events (s : State) : (noteSliceEvent s).events = s.events := rfl
@[simp] theorem noteSliceEvent_tx (s : State) : (noteSliceEvent s).tx = s.tx := rfl
@[simp] theorem noteSliceEvent_pending (s : State) : (noteSliceEvent s).pending = s.pending := rfl
@[simp] theorem noteSliceEvent_quantOut (s : State) : (noteSliceEvent s).quantOut = s.quantOut := rfl
@[simp] theorem noteSliceEvent_cksumOut (s : State) : (noteSliceEvent s).cksumOut = s.cksumOut := rfl
@[simp] theorem noteSliceEvent_explenOut (s : State) : (noteSliceEvent s).explenOut = s.explenOut := rfl
@[simp] theorem noteSliceEvent_readOut (s : State) : (noteSliceEvent s).readOut = s.readOut := rfl
@[simp] theorem noteSliceEvent_sliceOut (s : State) : (noteSliceEvent s).sliceOut = s.sliceOut ++ s.ev.toList := rfl
@[simp] theorem noteSliceEvent_linkClosed (s : State) : (noteSliceEvent s).linkClosed = s.linkClosed := rfl
@[simp] theorem noteSliceEvent_dec (s : State) : (noteSliceEvent s).dec = s.dec := rfl
@[simp] theorem noteSliceEvent_hsArgs (s : State) : (noteSliceEvent s).hsArgs = s.hsArgs := rfl
@[simp] theorem noteSliceEvent_free (s : State) : (noteSliceEvent s).free = s.free := rfl

@[simp] theorem toList_none : Event.none.toList = [] := rfl

@[simp] theorem andThen_next (s : State) (k : State → Result) : andThen (.next s) k = k s := rfl
@[simp] theorem andThen_fault (f : Fault) (k : State → Result) : andThen (.fault f) k = .fault f := rfl
@[simp] theorem andThen_refused (r : Refusal) (k : State → Result) : andThen (.refused r) k = .refused r := rfl

/-- Raising NONE only clears the event output (R30). -/
theorem raise_none (s : State) : raise .none s = { s with ev := .none } := by
  simp [raise, Event.toList]

/-- An event other than NONE is one entry of the event sequence (R9). -/
theorem toList_of_ne_none {e : Event} (h : e ≠ .none) : e.toList = [e] := by
  cases e <;> first | rfl | exact absurd rfl h

end Sys2Proof.Machine
end

