-- ==== Sys2Proof/Laws/Buffer.lean ====
section
/-! SUPPORT. The payload buffer: what a completed payload is and when two buffers give the same one (spec/10_state.md R24,
spec/41_checksum.md R141); the two bytes of a 16-bit field (R54); the checksum fold (R140). -/

set_option Elab.async false

namespace Sys2Proof.Machine

/-- A payload has `rx_len` bytes. -/
@[simp] theorem length_payloadOf (s : State) : (payloadOf s).length = s.rxLen.toNat := by
  have := s.rxLen.isLt
  simp [payloadOf, Config.bufSize]
  omega

/-- Byte `i` of a payload is `buf[i]`. -/
theorem getElem?_payloadOf (s : State) {i : Nat} (h : i < s.rxLen.toNat) : (payloadOf s)[i]? = s.buf[i]? := by
  simp [payloadOf, h]

/-- Equal lengths and buffers that agree below the length give the same payload. -/
theorem payloadOf_congr {s t : State} (hl : t.rxLen = s.rxLen) (h : ∀ i < s.rxLen.toNat, t.buf[i]? = s.buf[i]?) :
    payloadOf t = payloadOf s := by
  apply List.ext_getElem?
  intro i
  by_cases hi : i < s.rxLen.toNat
  · rw [getElem?_payloadOf t (hl ▸ hi), getElem?_payloadOf s hi, h i hi]
  · rw [List.getElem?_eq_none (by simp [hl]; omega), List.getElem?_eq_none (by simp; omega)]

/-- A payload that is not empty starts with `buf[0]`, the id (R25). -/
theorem head?_payloadOf {s : State} (h : s.rxLen ≠ 0) : (payloadOf s).head? = some s.buf[0] := by
  have h0 : 0 < s.rxLen.toNat := by
    rcases Nat.eq_zero_or_pos s.rxLen.toNat with h' | h'
    · exact absurd (BitVec.eq_of_toNat_eq (by simpa using h')) h
    · exact h'
  rw [List.head?_eq_getElem?, getElem?_payloadOf s h0]
  simp

/-- Splitting a 16-bit field into its two bytes and putting them together again (R54). -/
@[simp] theorem le16_bytes (v : Half) : le16 (lowByte v) (highByte v) = v := by
  apply BitVec.eq_of_toNat_eq
  have : ∀ n : Nat, n &&& 255 = n % 256 := fun n => Nat.and_two_pow_sub_one_eq_mod n 8
  simp [le16, lowByte, highByte, Nat.shiftRight_eq_div_pow, this]
  omega

@[simp] theorem cksum_nil (len : Byte) : cksum len [] = len := rfl

@[simp] theorem cksum_cons (len b : Byte) (p : List Byte) : cksum len (b :: p) = cksum (len ^^^ b) p := rfl

/-- The running accumulator of R35: one more byte, one more exclusive-or. -/
theorem cksum_append (len : Byte) (p q : List Byte) : cksum len (p ++ q) = cksum (cksum len p) q := by
  simp [cksum, List.foldl_append]

/-- The starting value can be factored out of the fold (R142). -/
theorem cksum_start (len : Byte) (p : List Byte) : cksum len p = len ^^^ cksum 0 p := by
  induction p generalizing len with
  | nil => simp
  | cons b p ih =>
    rw [cksum_cons, ih (len ^^^ b), cksum_cons, ih (0 ^^^ b)]
    simp [BitVec.xor_assoc]

end Sys2Proof.Machine
end

