-- ==== Sys2Proof/Laws/Receiver.lean ====
section
/-! SUPPORT. What one received byte can do, said once (spec/42_receiver.md R151 to R163): the shared operations' cases and
the receiver's step by state. -/

set_option Elab.async false

namespace Sys2Proof.Machine

/-- A sequence ends in a next state exactly when both parts do. -/
theorem andThen_eq_next {r : Result} {k : State → Result} {u : State} :
    andThen r k = .next u ↔ ∃ t, r = .next t ∧ k t = .next u := by
  cases r <;> simp

/-- Received bytes need an open link. -/
theorem whenOpen_eq_next {s : State} {r : Result} {t : State} :
    whenOpen s r = .next t ↔ s.linkClosed = false ∧ r = .next t := by
  unfold whenOpen; cases s.linkClosed <;> simp

theorem whenOpen_open {s : State} {r : Result} (h : s.linkClosed = false) : whenOpen s r = r := by simp [whenOpen, h]

theorem whenOpen_closed {s : State} {r : Result} (h : s.linkClosed = true) : whenOpen s r = .refused .linkClosed := by
  simp [whenOpen, h]

/-- A store answers a next state exactly inside the buffer. -/
theorem bufStore_eq_next {a : Nat} {b : Byte} {s t : State} :
    bufStore a b s = .next t ↔ ∃ h : a < Config.bufSize, t = { s with buf := s.buf.set a b h } := by
  unfold bufStore
  split
  · simp_all [eq_comm]
  · simp_all

/-- A row answers a next state exactly when it is the selected one and its rule does. -/
theorem takeRow_eq_next {c : RxClass} {b : Byte} {rule : Result} {s t : State} :
    takeRow c b rule s = .next t ↔ s.linkClosed = false ∧ classify s b = c ∧ rule = .next t := by
  unfold takeRow
  rw [whenOpen_eq_next]
  by_cases h : classify s b = c <;> simp [h]

/-- RXBYTE answers a next state exactly when the selected rule does. -/
theorem takeByte_eq_next {b : Byte} {s t : State} :
    takeByte b s = .next t ↔ s.linkClosed = false ∧ applyRule (classify s b) b s = .next t := whenOpen_eq_next

/-- A selected row is RXBYTE (R161). -/
theorem takeRow_of_selected {c : RxClass} {b : Byte} {s : State} (h : classify s b = c) :
    takeRow c b (applyRule c b s) s = takeByte b s := by
  simp [takeRow, takeByte, h]

/-- A row that is not selected is refused (log 14). -/
theorem takeRow_of_not_selected {c : RxClass} {b : Byte} {rule : Result} {s : State}
    (ho : s.linkClosed = false) (h : classify s b ≠ c) : takeRow c b rule s = .refused .notSelected := by
  simp [takeRow, whenOpen, ho, h]

/-- A byte in IDLE (R151, R152). -/
theorem takeByte_idle {b : Byte} {s : State} (ho : s.linkClosed = false) (h : s.st = .idle) :
    takeByte b s = .next { s with st := if b = Config.magic0 then .sync else .idle, ev := .none } := by
  by_cases hb : b = Config.magic0 <;>
    simp [takeByte, whenOpen, ho, classify, h, hb, applyRule, ruleIdleBe, ruleIdleSkip, raise_none]

/-- A byte in SYNC (R153, R154). -/
theorem takeByte_sync {b : Byte} {s : State} (ho : s.linkClosed = false) (h : s.st = .sync) :
    takeByte b s =
      .next (if b = Config.magic1 then { s with st := .length, ev := .none } else reject (.resync b) s) := by
  by_cases hb : b = Config.magic1 <;>
    simp [takeByte, whenOpen, ho, classify, h, hb, applyRule, ruleSyncEf, ruleSyncMiss, raise_none]

/-- A byte in LENGTH (R155). -/
theorem takeByte_length {b : Byte} {s : State} (ho : s.linkClosed = false) (h : s.st = .length) :
    takeByte b s = .next { s with rxLen := b, cnt := 0, st := .payload, ev := .none } := by
  simp [takeByte, whenOpen, ho, classify, h, applyRule, ruleLengthAny, raise_none]

/-- The id byte (R156, R157). -/
theorem takeByte_id {b : Byte} {s : State} (ho : s.linkClosed = false) (h : s.st = .payload) (hc : s.cnt = 0) :
    takeByte b s = .next (if idAccepted s b then
      { s with buf := s.buf.set 0 b, cnt := 1, st := if s.rxLen = 1 then .check else .payload, ev := .none }
      else reject (.rejSize b s.rxLen (expectedLen b)) s) := by
  by_cases hb : idAccepted s b <;>
    simp [takeByte, whenOpen, ho, classify, h, hc, hb, applyRule, rulePayloadIdOk, rulePayloadIdRej, bufStore, raise_none]

/-- A further payload byte (R158). -/
theorem takeByte_body {b : Byte} {s : State} (ho : s.linkClosed = false) (h : s.st = .payload) (hc : s.cnt ≠ 0)
    (hn : s.cnt < Config.bufSize) :
    takeByte b s = .next { s with
      buf := s.buf.set s.cnt b, cnt := s.cnt + 1,
      st := if s.cnt + 1 = s.rxLen.toNat then .check else .payload, ev := .none } := by
  simp [takeByte, whenOpen, ho, classify, h, hc, applyRule, rulePayloadBody, bufStore, hn, raise_none]

/-- The checksum byte (R159, R160). -/
theorem takeByte_check {b : Byte} {s : State} (ho : s.linkClosed = false) (h : s.st = .check) :
    takeByte b s = if b = cksum s.rxLen (payloadOf s)
      then dispatch (payloadOf s)
        (raise (.frame (memRead1 (payloadOf s) 0) (payloadOf s)) (forgetFrame { s with st := .idle }))
      else .next (reject (.rejCksum (memRead1 (payloadOf s) 0) (cksum s.rxLen (payloadOf s)) b) (discardBuf s)) := by
  by_cases hb : b = cksum s.rxLen (payloadOf s) <;>
    simp [takeByte, whenOpen, ho, classify, h, hb, applyRule, ruleCheckOk, ruleCheckFail]

/-- What the mux can do (R162): replace `ctl.cur` by a decoded payload, resolve an awaited handshake, or nothing. -/
theorem dispatch_eq_next {p : List Byte} {s t : State} (h : dispatch p s = .next t) :
    (∃ c, ctlDecode p = some c ∧ t = { s with cur := c, ctlValid := true }) ∨
    (∃ m1 m2 m3 rest, p = Config.idHandshake :: m1 :: m2 :: m3 :: rest ∧ s.hs = .awaitingReply ∧
      t = handshakeReply m1 m2 m3 s) ∨
    t = s := by
  unfold dispatch at h
  split at h
  · simp at h
  · split at h
    · split at h
      · exact .inl ⟨_, ‹_›, by simpa using h.symm⟩
      · simp at h
    · split at h
      · split at h
        · rename_i hid _ m1 m2 m3 rest
          by_cases ha : s.hs = .awaitingReply
          · exact .inr (.inl ⟨m1, m2, m3, rest, by rw [hid], ha, by simpa [ha] using h.symm⟩)
          · exact .inr (.inr (by simpa [ha] using h.symm))
        · simp at h
      · split at h
        · exact .inr (.inr (by simpa using h.symm))
        · simp at h

/-- No byte changes whether the link is open (R302). -/
theorem takeByte_linkClosed {b : Byte} {s t : State} (h : takeByte b s = .next t) : t.linkClosed = s.linkClosed := by
  have hr := (takeByte_eq_next.1 h).2
  cases hc : classify s b <;> rw [hc] at hr <;> simp only [applyRule, ruleIdleBe, ruleIdleSkip, ruleSyncEf,
    ruleSyncMiss, ruleLengthAny, rulePayloadIdRej, ruleCheckFail, Host.Outcome.next.injEq] at hr
  case payloadIdOk => obtain ⟨_, rfl⟩ := bufStore_eq_next.1 hr; rfl
  case payloadBody => obtain ⟨_, rfl⟩ := bufStore_eq_next.1 hr; rfl
  case checkOk => rcases dispatch_eq_next hr with ⟨c, _, rfl⟩ | ⟨_, _, _, _, _, _, rfl⟩ | rfl <;> rfl
  all_goals (rw [← hr]; rfl)

@[simp] theorem takeBytes_nil (s : State) : takeBytes [] s = .next s := rfl

@[simp] theorem takeBytes_cons (b : Byte) (bs : List Byte) (s : State) :
    takeBytes (b :: bs) s = andThen (takeByte b s) fun t => takeBytes bs (noteSliceEvent t) := rfl

/-- A slice is its parts in order (R163). -/
theorem takeBytes_append (bs cs : List Byte) (s : State) :
    takeBytes (bs ++ cs) s = andThen (takeBytes bs s) (takeBytes cs) := by
  induction bs generalizing s with
  | nil => simp
  | cons b bs ih =>
    simp only [List.cons_append, takeBytes_cons]
    cases takeByte b s <;> simp [ih]

end Sys2Proof.Machine
end

