-- ==== Sys2Proof/Laws/Codec.lean ====
section
/-! SUPPORT. What the encoder can do, said once (spec/40_frame_codec.md R120, R123). -/

set_option Elab.async false

namespace Sys2Proof.Machine

/-- ENCODE frames exactly the payloads of 1 to 255 bytes whose first byte is the id. -/
theorem encodeFailure_eq_none {id : Byte} {p : List Byte} :
    encodeFailure id p = none ↔ p.length ≤ 255 ∧ p.head? = some id := by
  unfold encodeFailure
  cases p with
  | nil => simp [Config.lenMax]
  | cons b p =>
    by_cases hl : (b :: p).length > Config.lenMax
    · simp only [hl, if_true]
      simp [Config.lenMax] at hl
      simp; omega
    · simp only [hl, if_false]
      simp [Config.lenMax] at hl
      by_cases hb : b = id <;> simp [hb]; omega

/-- ENCODE raises ENC_FAIL with its cause, or emits the one frame. -/
theorem encodeStep_cases (id : Byte) (p : List Byte) (s : State) :
    (∃ c, encodeFailure id p = some c ∧ encodeStep id p s = raise (.encFail c) s) ∨
    (encodeFailure id p = none ∧ encodeStep id p s = raise .none (emitTx (frameOf p) s)) := by
  unfold encodeStep
  cases encodeFailure id p <;> simp

/-- A frame is four bytes longer than its payload. -/
@[simp] theorem length_frameOf (p : List Byte) : (frameOf p).length = p.length + 4 := by simp [frameOf]

end Sys2Proof.Machine
end

