-- ==== Sys2Proof/Laws/PerInstr.lean ====
section
/-! SUPPORT. Facts about every instruction as syntax, one lemma for each constructor. -/

set_option Elab.async false

namespace Sys2Proof.Laws.RowFormat

/-- An instruction's transaction enters by the port of its row's format (R99), and a FIELD or RXBYTE row belongs to
the transport (R61). -/
def Statement (i : Instr) : Prop :=
  (i.format = .field ∨ i.format = .rxbyte ∨ i.format = .frame → i.agent = .transport) ∧
    (i.agent = .host → i.format = .cmd)

theorem frameHandshake (m1 m2 m3 ck : Byte) : Statement (.frameHandshake m1 m2 m3 ck) := ⟨fun _ => rfl, nofun⟩
theorem frameControl (body : List Byte) (ck : Byte) : Statement (.frameControl body ck) := ⟨fun _ => rfl, nofun⟩
theorem frameTelemetry (len : Byte) (body : List Byte) (ck : Byte) : Statement (.frameTelemetry len body ck) := ⟨fun _ => rfl, nofun⟩
theorem idleBe : Statement .idleBe := ⟨fun _ => rfl, nofun⟩
theorem idleSkip (b : Byte) : Statement (.idleSkip b) := ⟨fun _ => rfl, nofun⟩
theorem syncEf : Statement .syncEf := ⟨fun _ => rfl, nofun⟩
theorem syncMiss (b : Byte) : Statement (.syncMiss b) := ⟨fun _ => rfl, nofun⟩
theorem lengthAny (b : Byte) : Statement (.lengthAny b) := ⟨fun _ => rfl, nofun⟩
theorem payloadIdOk (b : Byte) : Statement (.payloadIdOk b) := ⟨fun _ => rfl, nofun⟩
theorem payloadIdRej (b : Byte) : Statement (.payloadIdRej b) := ⟨fun _ => rfl, nofun⟩
theorem payloadBody (b : Byte) : Statement (.payloadBody b) := ⟨fun _ => rfl, nofun⟩
theorem checkOk (b : Byte) : Statement (.checkOk b) := ⟨fun _ => rfl, nofun⟩
theorem checkFail (b : Byte) : Statement (.checkFail b) := ⟨fun _ => rfl, nofun⟩
theorem ctlSas (f : Byte) : Statement (.ctlSas f) := ⟨fun _ => rfl, nofun⟩
theorem ctlRcs (f : Byte) : Statement (.ctlRcs f) := ⟨fun _ => rfl, nofun⟩
theorem ctlLights (f : Byte) : Statement (.ctlLights f) := ⟨fun _ => rfl, nofun⟩
theorem ctlGear (f : Byte) : Statement (.ctlGear f) := ⟨fun _ => rfl, nofun⟩
theorem ctlBrakes (f : Byte) : Statement (.ctlBrakes f) := ⟨fun _ => rfl, nofun⟩
theorem ctlPrecision (f : Byte) : Statement (.ctlPrecision f) := ⟨fun _ => rfl, nofun⟩
theorem ctlAbort (f : Byte) : Statement (.ctlAbort f) := ⟨fun _ => rfl, nofun⟩
theorem ctlStage (f : Byte) : Statement (.ctlStage f) := ⟨fun _ => rfl, nofun⟩
theorem ctlMode (f : Byte) : Statement (.ctlMode f) := ⟨fun _ => rfl, nofun⟩
theorem ctlGroup1 (f : Half) : Statement (.ctlGroup1 f) := ⟨fun _ => rfl, nofun⟩
theorem ctlGroup2 (f : Half) : Statement (.ctlGroup2 f) := ⟨fun _ => rfl, nofun⟩
theorem ctlGroup3 (f : Half) : Statement (.ctlGroup3 f) := ⟨fun _ => rfl, nofun⟩
theorem ctlGroup4 (f : Half) : Statement (.ctlGroup4 f) := ⟨fun _ => rfl, nofun⟩
theorem ctlGroup5 (f : Half) : Statement (.ctlGroup5 f) := ⟨fun _ => rfl, nofun⟩
theorem ctlGroup6 (f : Half) : Statement (.ctlGroup6 f) := ⟨fun _ => rfl, nofun⟩
theorem ctlGroup7 (f : Half) : Statement (.ctlGroup7 f) := ⟨fun _ => rfl, nofun⟩
theorem ctlGroup8 (f : Half) : Statement (.ctlGroup8 f) := ⟨fun _ => rfl, nofun⟩
theorem ctlGroup9 (f : Half) : Statement (.ctlGroup9 f) := ⟨fun _ => rfl, nofun⟩
theorem ctlGroup10 (f : Half) : Statement (.ctlGroup10 f) := ⟨fun _ => rfl, nofun⟩
theorem ctlGroupUnused (f : Half) : Statement (.ctlGroupUnused f) := ⟨fun _ => rfl, nofun⟩
theorem ctlAutopilotMode (f : Byte) : Statement (.ctlAutopilotMode f) := ⟨fun _ => rfl, nofun⟩
theorem ctlSpeedMode (f : Byte) : Statement (.ctlSpeedMode f) := ⟨fun _ => rfl, nofun⟩
theorem ctlReserved (f : Byte) : Statement (.ctlReserved f) := ⟨fun _ => rfl, nofun⟩
theorem ctlPitch (f : Half) : Statement (.ctlPitch f) := ⟨fun _ => rfl, nofun⟩
theorem ctlRoll (f : Half) : Statement (.ctlRoll f) := ⟨fun _ => rfl, nofun⟩
theorem ctlYaw (f : Half) : Statement (.ctlYaw f) := ⟨fun _ => rfl, nofun⟩
theorem ctlTx (f : Half) : Statement (.ctlTx f) := ⟨fun _ => rfl, nofun⟩
theorem ctlTy (f : Half) : Statement (.ctlTy f) := ⟨fun _ => rfl, nofun⟩
theorem ctlTz (f : Half) : Statement (.ctlTz f) := ⟨fun _ => rfl, nofun⟩
theorem ctlWheelSteer (f : Half) : Statement (.ctlWheelSteer f) := ⟨fun _ => rfl, nofun⟩
theorem ctlThrottle (f : Half) : Statement (.ctlThrottle f) := ⟨fun _ => rfl, nofun⟩
theorem ctlWheelThrottle (f : Half) : Statement (.ctlWheelThrottle f) := ⟨fun _ => rfl, nofun⟩
theorem hsMarker1 (f : Byte) : Statement (.hsMarker1 f) := ⟨fun _ => rfl, nofun⟩
theorem hsMarker2 (f : Byte) : Statement (.hsMarker2 f) := ⟨fun _ => rfl, nofun⟩
theorem hsMarker3 (f : Byte) : Statement (.hsMarker3 f) := ⟨fun _ => rfl, nofun⟩
theorem resetBlock : Statement .resetBlock := ⟨fun h => by simp [Instr.format, Sys2Proof.encode] at h, fun _ => rfl⟩
theorem openLink : Statement .openLink := ⟨fun h => by simp [Instr.format, Sys2Proof.encode] at h, fun _ => rfl⟩
theorem closeLink : Statement .closeLink := ⟨fun h => by simp [Instr.format, Sys2Proof.encode] at h, fun _ => rfl⟩
theorem rxbyte (b : Byte) : Statement (.rxbyte b) := ⟨fun _ => rfl, fun _ => rfl⟩
theorem rxslice (bs : List Byte) : Statement (.rxslice bs) := ⟨fun _ => rfl, fun _ => rfl⟩
theorem reconcile : Statement .reconcile := ⟨fun h => by simp [Instr.format, Sys2Proof.encode] at h, fun _ => rfl⟩
theorem readControl : Statement .readControl := ⟨fun h => by simp [Instr.format, Sys2Proof.encode] at h, fun _ => rfl⟩
theorem cksum (len : Byte) (p : List Byte) : Statement (.cksum len p) := ⟨fun h => by simp [Instr.format, Sys2Proof.encode] at h, fun _ => rfl⟩
theorem expectedLen (id : Byte) : Statement (.expectedLen id) := ⟨fun h => by simp [Instr.format, Sys2Proof.encode] at h, fun _ => rfl⟩
theorem encodeFrame (id : Byte) (p : List Byte) : Statement (.encodeFrame id p) := ⟨fun h => by simp [Instr.format, Sys2Proof.encode] at h, fun _ => rfl⟩
theorem quant (a : Angle) : Statement (.quant a) := ⟨fun h => by simp [Instr.format, Sys2Proof.encode] at h, fun _ => rfl⟩
theorem tlmSend (t : List Byte) : Statement (.tlmSend t) := ⟨fun h => by simp [Instr.format, Sys2Proof.encode] at h, fun _ => rfl⟩
theorem hsStart : Statement .hsStart := ⟨fun h => by simp [Instr.format, Sys2Proof.encode] at h, fun _ => rfl⟩
theorem hsPoll : Statement .hsPoll := ⟨fun h => by simp [Instr.format, Sys2Proof.encode] at h, fun _ => rfl⟩

end Sys2Proof.Laws.RowFormat
end

