-- ==== Sys2Proof/Laws/Quantizer.lean ====
section
/-! SUPPORT. What the quantizer's parts can do, said once (spec/45_telemetry_quantizer.md R240 to R243): rounding in terms
of the floor, the clamp as an integer, and the whole as the clamp of the rounding; CKSUM's result inside R140's range. -/

set_option Elab.async false

namespace Sys2Proof.Machine

/-- Rounding in R241's own terms: the floor and the distance to it. -/
theorem roundRat_eq_floor (tie : TieRule) (q : Rat) : roundRat tie q =
    if 2 * (q - ⌊q⌋) < 1 then ⌊q⌋ else if 1 < 2 * (q - ⌊q⌋) then ⌊q⌋ + 1 else roundTie tie ⌊q⌋ := by
  have hf : ⌊q⌋ = q.num / (q.den : Int) := Rat.floor_def'
  have hd : (0 : ℚ) < q.den := by exact_mod_cast q.den_pos
  have hm : ((q.num % (q.den : Int) : Int) : ℚ) = q.den * (q - ⌊q⌋) := by
    have hn : (q.num : ℚ) = q * q.den := (Rat.mul_den_eq_num q).symm
    rw [Int.emod_def, ← hf]
    push_cast
    rw [hn]
    ring
  have below : 2 * (q.num % (q.den : Int)) < (q.den : Int) ↔ 2 * (q - ⌊q⌋) < 1 := by
    rw [← Int.cast_lt (R := ℚ)]
    push_cast
    rw [hm]
    constructor <;> intro h <;> nlinarith
  have above : (q.den : Int) < 2 * (q.num % (q.den : Int)) ↔ 1 < 2 * (q - ⌊q⌋) := by
    rw [← Int.cast_lt (R := ℚ)]
    push_cast
    rw [hm]
    constructor <;> intro h <;> nlinarith
  simp only [roundRat, below, above, ← hf]

/-- An irrational operand rounds to an integer nearer than a half (R241). -/
theorem abs_sub_roundIrrational_lt {h : Int} {x : ℝ} (hl : (h : ℝ) < 100 * x) (hu : 100 * x < h + 1) :
    |x * 50 - roundIrrational h| < 1 / 2 := by
  unfold roundIrrational
  rcases Int.even_or_odd h with ⟨k, rfl⟩ | ⟨k, rfl⟩
  · rw [show (k + k + 1) / 2 = k by omega, abs_lt]
    push_cast at *
    constructor <;> linarith
  · rw [show (2 * k + 1 + 1) / 2 = k + 1 by omega, abs_lt]
    push_cast at *
    constructor <;> linarith

/-- The clamp as an integer (R240, R242). -/
theorem toInt_clamp16 (r : Int) :
    (clamp16 r).toInt = if r > 32767 then 32767 else if r < -32768 then -32768 else r := by
  unfold clamp16
  split_ifs
  · rfl
  · rfl
  · rw [BitVec.toInt_ofInt]
    simp [Int.bmod]
    omega

/-- An operand that rounds is quantized to the clamp of what it rounds to (R240). -/
theorem quantWith_of_roundAngle {tie : TieRule} {a : Angle} {r : Int} (h : roundAngle tie a = some r) :
    quantWith tie a = some (clamp16 r) := by
  cases a <;> simp_all [roundAngle, quantWith]

/-- CKSUM's result on the 0 to 255 bytes of R140 is the fold. -/
theorem cksumResult_of_length_le {len : Byte} {p : List Byte} (h : p.length ≤ 255) : cksumResult len p = cksum len p :=
  if_pos h

end Sys2Proof.Machine
end

