-- ==== Sys2Proof/Tests/Slice0.lean ====
section
/-! SUPPORT. The model's own tests. Expected values come from spec/95_test_vectors.md (S, V and P numbers below), from the
worked values of R145, R225 and R249, or from the encodings of spec/30_encoding.md written out. -/

set_option Elab.async false

namespace Sys2Proof.Tests

open Sys2Proof Sys2Proof.Machine

/-! ## Well-formedness: one ill-formed term for each check -/

theorem test_wf_control_body : (Instr.frameControl (List.replicate 23 0) 0).wellFormed = false := by decide
theorem test_wf_idle_skip : (Instr.idleSkip 0xBE).wellFormed = false := by decide
theorem test_wf_sync_miss : (Instr.syncMiss 0xEF).wellFormed = false := by decide

/-! ## Decoding: each constructor's word, written out -/

theorem test_decode_frames :
    decode (.frame [0xBE, 0xEF, 0x04, 0x00, 0x01, 0x02, 0x03, 0x04]) = .ok (.frameHandshake 1 2 3 4) ∧
    decode (.frame ([0xBE, 0xEF, 0x19, 0x65, 0x80] ++ List.replicate 23 0 ++ [0xFC])) =
      .ok (.frameControl (0x80 :: List.replicate 23 0) 0xFC) ∧
    decode (.frame [0xBE, 0xEF, 0x03, 0x01, 0x28, 0x23, 0x09]) = .ok (.frameTelemetry 3 [0x28, 0x23] 9) := by
  refine ⟨?_, ?_, ?_⟩ <;> rfl

theorem test_decode_frame_refused :
    decode (.frame [0xBE, 0xEF, 0x05, 0x00, 0x01, 0x02, 0x03, 0x04]) = .error .noFrameRow ∧
    decode (.frame [0xBE, 0xEE, 0x04, 0x00, 0x01, 0x02, 0x03, 0x04]) = .error .noFrameRow ∧
    decode (.frame [0xBE, 0xEF, 0x04, 0x00, 0x01, 0x02, 0x03]) = .error .frameLength := by
  refine ⟨?_, ?_, ?_⟩ <;> rfl

theorem test_decode_rx_rows :
    decode (.rxRow .idle 1 0xBE) = .ok .idleBe ∧ decode (.rxRow .idle 2 0xEF) = .ok (.idleSkip 0xEF) ∧
    decode (.rxRow .sync 1 0xEF) = .ok .syncEf ∧ decode (.rxRow .sync 2 0xBE) = .ok (.syncMiss 0xBE) ∧
    decode (.rxRow .length 1 0x19) = .ok (.lengthAny 0x19) ∧ decode (.rxRow .payload 1 0x65) = .ok (.payloadIdOk 0x65) ∧
    decode (.rxRow .payload 2 0x07) = .ok (.payloadIdRej 0x07) ∧
    decode (.rxRow .payload 3 0xBE) = .ok (.payloadBody 0xBE) ∧
    decode (.rxRow .check 1 0x02) = .ok (.checkOk 0x02) ∧ decode (.rxRow .check 2 0x03) = .ok (.checkFail 0x03) := by
  refine ⟨?_, ?_, ?_, ?_, ?_, ?_, ?_, ?_, ?_, ?_⟩ <;> rfl

theorem test_decode_rx_refused :
    decode (.rxRow .idle 2 0xBE) = .error .byteNotInClass ∧ decode (.rxRow .sync 3 0) = .error .noRxRow := by
  constructor <;> rfl

theorem test_decode_flag_fields :
    decode (.field .control 1 0x80 [0xA1]) = .ok (.ctlSas 0xA1) ∧ decode (.field .control 1 0x40 [0xA1]) = .ok (.ctlRcs 0xA1) ∧
    decode (.field .control 1 0x20 [0xA1]) = .ok (.ctlLights 0xA1) ∧ decode (.field .control 1 0x10 [0xA1]) = .ok (.ctlGear 0xA1) ∧
    decode (.field .control 1 0x08 [0xA1]) = .ok (.ctlBrakes 0xA1) ∧
    decode (.field .control 1 0x04 [0xA1]) = .ok (.ctlPrecision 0xA1) ∧
    decode (.field .control 1 0x02 [0xA1]) = .ok (.ctlAbort 0xA1) ∧ decode (.field .control 1 0x01 [0xA1]) = .ok (.ctlStage 0xA1) ∧
    decode (.field .control 2 0xFF [0x02]) = .ok (.ctlMode 2) := by
  refine ⟨?_, ?_, ?_, ?_, ?_, ?_, ?_, ?_, ?_⟩ <;> rfl

theorem test_decode_group_fields :
    decode (.field .control 3 0x0002 [0x02, 0x04]) = .ok (.ctlGroup1 0x0402) ∧
    decode (.field .control 3 0x0004 [0x02, 0x04]) = .ok (.ctlGroup2 0x0402) ∧
    decode (.field .control 3 0x0008 [0x02, 0x04]) = .ok (.ctlGroup3 0x0402) ∧
    decode (.field .control 3 0x0010 [0x02, 0x04]) = .ok (.ctlGroup4 0x0402) ∧
    decode (.field .control 3 0x0020 [0x02, 0x04]) = .ok (.ctlGroup5 0x0402) ∧
    decode (.field .control 3 0x0040 [0x02, 0x04]) = .ok (.ctlGroup6 0x0402) ∧
    decode (.field .control 3 0x0080 [0x02, 0x04]) = .ok (.ctlGroup7 0x0402) ∧
    decode (.field .control 3 0x0100 [0x02, 0x04]) = .ok (.ctlGroup8 0x0402) ∧
    decode (.field .control 3 0x0200 [0x02, 0x04]) = .ok (.ctlGroup9 0x0402) ∧
    decode (.field .control 3 0x0400 [0x02, 0x04]) = .ok (.ctlGroup10 0x0402) ∧
    decode (.field .control 3 0xF801 [0x01, 0xF8]) = .ok (.ctlGroupUnused 0xF801) := by
  refine ⟨?_, ?_, ?_, ?_, ?_, ?_, ?_, ?_, ?_, ?_, ?_⟩ <;> rfl

theorem test_decode_nibble_reserved_marker_fields :
    decode (.field .control 5 0x0F [0x21]) = .ok (.ctlAutopilotMode 0x21) ∧
    decode (.field .control 5 0xF0 [0x21]) = .ok (.ctlSpeedMode 0x21) ∧
    decode (.field .control 6 0xFF [0x5A]) = .ok (.ctlReserved 0x5A) ∧
    decode (.field .handshake 1 0xFF [3]) = .ok (.hsMarker1 3) ∧ decode (.field .handshake 2 0xFF [1]) = .ok (.hsMarker2 1) ∧
    decode (.field .handshake 3 0xFF [4]) = .ok (.hsMarker3 4) := by
  refine ⟨?_, ?_, ?_, ?_, ?_, ?_⟩ <;> rfl

theorem test_decode_axis_fields :
    decode (.field .control 7 0xFFFF [0xF4, 0x01]) = .ok (.ctlPitch 0x01F4) ∧
    decode (.field .control 9 0xFFFF [0x18, 0xFC]) = .ok (.ctlRoll 0xFC18) ∧
    decode (.field .control 11 0xFFFF [0x01, 0x00]) = .ok (.ctlYaw 0x0001) ∧
    decode (.field .control 13 0xFFFF [0xFF, 0xFF]) = .ok (.ctlTx 0xFFFF) ∧
    decode (.field .control 15 0xFFFF [0x00, 0x80]) = .ok (.ctlTy 0x8000) ∧
    decode (.field .control 17 0xFFFF [0xFF, 0x7F]) = .ok (.ctlTz 0x7FFF) ∧
    decode (.field .control 19 0xFFFF [0x0C, 0xFE]) = .ok (.ctlWheelSteer 0xFE0C) ∧
    decode (.field .control 21 0xFFFF [0xE8, 0x03]) = .ok (.ctlThrottle 0x03E8) ∧
    decode (.field .control 23 0xFFFF [0xBE, 0xEF]) = .ok (.ctlWheelThrottle 0xEFBE) := by
  refine ⟨?_, ?_, ?_, ?_, ?_, ?_, ?_, ?_, ?_⟩ <;> rfl

theorem test_decode_field_refused :
    decode (.field .control 1 0x81 [0]) = .error .noFieldRow ∧ decode (.field .control 7 0xFFFF [0]) = .error .fieldWidth := by
  constructor <;> rfl

theorem test_decode_cmds :
    decode (.cmd 0x0 {}) = .ok .resetBlock ∧ decode (.cmd 0x1 {}) = .ok .openLink ∧ decode (.cmd 0x2 {}) = .ok .closeLink ∧
    decode (.cmd 0x3 { byte := 0xBE }) = .ok (.rxbyte 0xBE) ∧ decode (.cmd 0x4 { bytes := [1, 2] }) = .ok (.rxslice [1, 2]) ∧
    decode (.cmd 0x5 {}) = .ok .reconcile ∧ decode (.cmd 0x6 {}) = .ok .readControl ∧
    decode (.cmd 0x7 { byte := 4, bytes := [0, 1] }) = .ok (.cksum 4 [0, 1]) ∧
    decode (.cmd 0x8 { byte := 101 }) = .ok (.expectedLen 101) ∧
    decode (.cmd 0x9 { byte := 2, bytes := [2, 3] }) = .ok (.encodeFrame 2 [2, 3]) ∧
    decode (.cmd 0xA { angle := .posInf }) = .ok (.quant .posInf) ∧ decode (.cmd 0xB { bytes := [1] }) = .ok (.tlmSend [1]) ∧
    decode (.cmd 0xC {}) = .ok .hsStart ∧ decode (.cmd 0xD {}) = .ok .hsPoll := by
  refine ⟨?_, ?_, ?_, ?_, ?_, ?_, ?_, ?_, ?_, ?_, ?_, ?_, ?_, ?_⟩ <;> rfl

theorem test_decode_cmd_refused :
    decode (.cmd 0xE {}) = .error (.unassignedCmd 0xE) ∧ decode (.cmd 0xF {}) = .error (.unassignedCmd 0xF) := by
  constructor <;> rfl

/-- The table's words (R99), with the operand bytes the table's number does not reach zero. -/
theorem test_table_words :
    decodeTableWord 32 0xBEEF0400 = some (.frameHandshake 0 0 0 0) ∧
    decodeTableWord 32 0xBEEF1965 = some (.frameControl (List.replicate 24 0) 0) ∧
    decodeTableWord 8 0xBE = some .idleBe ∧ decodeTableWord 8 0x80 = some (.ctlSas 0x80) ∧
    decodeTableWord 16 0x0400 = some (.ctlGroup10 0x0400) ∧ decodeTableWord 8 0x0D = some .hsPoll := by
  refine ⟨?_, ?_, ?_, ?_, ?_, ?_⟩ <;> rfl

/-! ## Small states -/

/-- A receiver inside a payload whose first bytes have been stored. -/
def collectingState (st : RxState) (len : Byte) (p : List Byte) : State :=
  { State.reset with st := st, rxLen := len, cnt := p.length, buf := Vector.ofFn fun i => p.getD i.val 0 }

/-- The next state, if there is one. -/
def nextOf (r : Result) : Option State :=
  match r with
  | .next t => some t
  | _ => none

/-- The events of a slice delivered from a state. -/
def sliceEvents (bs : List Byte) (s : State) : Option (List Event) := (nextOf (exec (.rxslice bs) s)).map State.sliceOut

/-- The frame of S1. -/
def s1Body : List Byte := [0x80, 0, 0, 0, 0x21, 0, 0xF4, 0x01] ++ List.replicate 16 0

/-- The body of V20. -/
def v20Body : List Byte :=
  [0xA1, 0x02, 0x02, 0x04, 0x21, 0x7F, 0xF4, 0x01, 0x18, 0xFC, 0x00, 0x00, 0xFF, 0xFF, 0x00, 0x80, 0xFF, 0x7F, 0x0C, 0xFE,
    0xE8, 0x03, 0x00, 0x00]

/-! ## The receiver -/

theorem test_idle_be : (nextOf (exec .idleBe State.reset)).map State.st = some .sync := by decide
theorem test_idle_skip_ef : (nextOf (exec (.idleSkip 0xEF) State.reset)).map State.st = some .idle := by decide
theorem test_sync_ef : (nextOf (exec .syncEf { State.reset with st := .sync })).map State.st = some .length := by decide
/-- V13: a doubled `0xBE` is a miss. -/
theorem test_sync_miss_be : (nextOf (exec (.syncMiss 0xBE) { State.reset with st := .sync })).map (fun t => (t.st, t.ev)) =
    some (.idle, .resync 0xBE) := by decide
theorem test_length_any : (nextOf (exec (.lengthAny 0) { State.reset with st := .length, cnt := 9 })).map
    (fun t => (t.st, t.rxLen, t.cnt)) = some (.payload, 0, 0) := by decide
/-- V10 at byte 3. -/
theorem test_payload_id_ok : (nextOf (exec (.payloadIdOk 0) (collectingState .payload 4 []))).map
    (fun t => (t.st, t.cnt, t.buf[0])) = some (.payload, 1, 0) := by decide +kernel
/-- S2. -/
theorem test_payload_id_rej : (nextOf (exec (.payloadIdRej 101) (collectingState .payload 24 []))).map (fun t => (t.st, t.ev)) =
    some (.idle, .rejSize 101 24 25) := by decide
/-- An id byte its registry accepts is not the reject row's. -/
theorem test_payload_id_rej_not_selected :
    exec (.payloadIdRej 0) (collectingState .payload 4 []) = .refused .notSelected := by rfl
/-- V10 at byte 6: the last payload byte goes to CHECK. -/
theorem test_payload_body_last : (nextOf (exec (.payloadBody 4) (collectingState .payload 4 [0, 3, 1]))).map
    (fun t => (t.st, t.cnt, t.buf[3])) = some (.check, 4, 4) := by decide +kernel
/-- V10 at byte 7, and V2. -/
theorem test_check_ok : (nextOf (exec (.checkOk 2) (collectingState .check 4 [0, 3, 1, 4]))).map (fun t => (t.st, t.ev, t.hs)) =
    some (.idle, .frame 0 [0, 3, 1, 4], .notStarted) := by decide +kernel
/-- P1: the awaited reply is confirmed. -/
theorem test_check_ok_confirms :
    (nextOf (exec (.checkOk 2) { collectingState .check 4 [0, 3, 1, 4] with hs := .awaitingReply })).map State.hs =
      some .confirmed := by decide +kernel
/-- V14 at byte 7. -/
theorem test_check_fail : (nextOf (exec (.checkFail 3) (collectingState .check 4 [0, 3, 1, 4]))).map (fun t => (t.st, t.ev)) =
    some (.idle, .rejCksum 0 2 3) := by decide +kernel
/-- V18: a checksum byte `0xBE` is taken in CHECK. -/
theorem test_rxbyte_checksum_be : (nextOf (exec (.rxbyte 0xBE) (collectingState .check 25
    (0x65 :: 0xC2 :: List.replicate 23 0)))).map (fun t => (t.st, t.ctlValid)) = some (.idle, true) := by decide +kernel
/-- P2 at byte 2. -/
theorem test_rxbyte_sync : (nextOf (exec (.rxbyte 0x11) { State.reset with st := .sync })).map State.ev =
    some (.resync 0x11) := by decide
/-- V14. -/
theorem test_rxslice_reject_then_frame :
    sliceEvents [0xBE, 0xEF, 4, 0, 3, 1, 4, 3, 0xBE, 0xEF, 4, 0, 3, 1, 4, 2] State.reset =
      some [.rejCksum 0 2 3, .frame 0 [0, 3, 1, 4]] := by decide +kernel
/-- V16: magic inside the tail of a rejected frame. -/
theorem test_rxslice_magic_in_tail :
    sliceEvents [0xBE, 0xEF, 5, 0, 0xBE, 0xEF, 4, 0, 3, 1, 4, 2] State.reset =
      some [.rejSize 0 5 4, .frame 0 [0, 3, 1, 4]] := by decide +kernel

/-! ## The FRAME rows -/

/-- V35: the challenge echoed. -/
theorem test_frame_handshake :
    (nextOf (exec (.frameHandshake 1 2 3 4) { State.reset with hs := .awaitingReply })).map (fun t => (t.hs, t.hsAtt, t.sliceOut)) =
      some (.timedOut, 0, [.frame 0 [0, 1, 2, 3]]) := by decide +kernel
/-- V20, the flags, groups and nibbles. -/
theorem test_frame_control_v20 :
    (nextOf (exec (.frameControl v20Body 0x8F) State.reset)).map (fun t =>
      ([t.cur.sas, t.cur.rcs, t.cur.lights, t.cur.gear, t.cur.brakes, t.cur.precision, t.cur.abort, t.cur.stage],
        t.cur.mode, t.cur.controlGroup.toList, t.cur.autopilotMode, t.cur.speedMode, t.ctlValid)) =
      some ([true, false, true, false, false, false, false, true], 2,
        [false, true, false, false, false, false, false, false, false, false, true], 1, 2, true) := by decide +kernel
/-- V20, the axes. -/
theorem test_frame_control_v20_axes :
    (nextOf (exec (.frameControl v20Body 0x8F) State.reset)).map (fun t =>
      [t.cur.pitch, t.cur.roll, t.cur.yaw, t.cur.tx, t.cur.ty, t.cur.tz, t.cur.wheelSteer, t.cur.throttle,
        t.cur.wheelThrottle].map (fun x => sext16 x.raw)) =
      some [500, -1000, 0, -1, -32768, 32767, -500, 1000, 0] := by decide +kernel
/-- V23. -/
theorem test_frame_telemetry :
    (nextOf (exec (.frameTelemetry 3 [0x28, 0x23] 9) State.reset)).map State.sliceOut = some [.rejSize 1 3 0] := by
  decide +kernel
/-- V23 in the other registry: its `expected_len`. -/
theorem test_telemetry_registered : expectedLenWith true 3 1 = 3 ∧ expectedLenWith false 3 1 = 0 := by decide

/-! ## The Control decoder -/

/-- S4 and V25: the flag lanes. -/
theorem test_flag_lanes :
    [Instr.ctlSas 0x80, .ctlRcs 0x40, .ctlLights 0x20, .ctlGear 0x10, .ctlBrakes 0x08, .ctlPrecision 0x04, .ctlAbort 0x02,
      .ctlStage 0x01].map (fun i => (nextOf (exec i State.reset)).map fun t =>
        [t.dec.sas, t.dec.rcs, t.dec.lights, t.dec.gear, t.dec.brakes, t.dec.precision, t.dec.abort, t.dec.stage]) =
      (List.range 8).map (fun n => some ((List.range 8).map fun m => decide (m = n))) := by decide +kernel
/-- V26, V27: each group lane sees its own bit. -/
theorem test_group_lanes :
    [Instr.ctlGroup1 2, .ctlGroup2 4, .ctlGroup3 8, .ctlGroup4 0x10, .ctlGroup5 0x20, .ctlGroup6 0x40, .ctlGroup7 0x80,
      .ctlGroup8 0x100, .ctlGroup9 0x200, .ctlGroup10 0x400].map (fun i => (nextOf (exec i State.reset)).map fun t =>
        t.dec.controlGroup.toList) =
      (List.range 10).map (fun n => some ((List.range 11).map fun m => decide (m = n + 1))) := by decide +kernel
/-- V27: the unused bits set no group. -/
theorem test_group_unused :
    (nextOf (exec (.ctlGroupUnused 0xF801) State.reset)).map (fun t => t.dec.controlGroup.toList) =
      some (List.replicate 11 false) := by decide
/-- S6. -/
theorem test_nibbles :
    (nextOf (exec (.ctlAutopilotMode 0x21) State.reset)).map (fun t => t.dec.autopilotMode) = some 1 ∧
    (nextOf (exec (.ctlSpeedMode 0x21) State.reset)).map (fun t => t.dec.speedMode) = some 2 := by decide
theorem test_mode : (nextOf (exec (.ctlMode 0xEF) State.reset)).map (fun t => t.dec.mode) = some 0xEF := by decide
/-- V29. -/
theorem test_reserved : (nextOf (exec (.ctlReserved 0x5A) State.reset)).map State.dec = some zeroControl := by decide
theorem test_markers :
    (nextOf (exec (.hsMarker1 3) State.reset)).map State.hsArgs = some ⟨3, 0, 0⟩ ∧
    (nextOf (exec (.hsMarker2 1) State.reset)).map State.hsArgs = some ⟨0, 1, 0⟩ ∧
    (nextOf (exec (.hsMarker3 4) State.reset)).map State.hsArgs = some ⟨0, 0, 4⟩ := by decide
/-- V30: the axis lanes, each its own axis. -/
theorem test_axis_lanes :
    [Instr.ctlPitch 1, .ctlRoll 1, .ctlYaw 1, .ctlTx 1, .ctlTy 1, .ctlTz 1, .ctlWheelSteer 1, .ctlThrottle 1,
      .ctlWheelThrottle 1].map (fun i => (nextOf (exec i State.reset)).map fun t =>
        [t.dec.pitch, t.dec.roll, t.dec.yaw, t.dec.tx, t.dec.ty, t.dec.tz, t.dec.wheelSteer, t.dec.throttle,
          t.dec.wheelThrottle].map (fun x => sext16 x.raw)) =
      (List.range 9).map (fun n => some ((List.range 9).map fun m => if m = n then 1 else 0)) := by decide +kernel
/-- V30: the values of the corner fields. -/
theorem test_axis_values :
    [[0x00, 0x00], [0xE8, 0x03], [0x18, 0xFC], [0x01, 0x00], [0xFF, 0xFF], [0xFF, 0x7F], [0x00, 0x80], [0xF4, 0x01]].map
      (fun p => (axisOf (memRead2 p 0)).value) =
      [0, 1, -1, 1 / 1000, -1 / 1000, 32767 / 1000, -32768 / 1000, 1 / 2] := by decide +kernel
/-- The binary32 patterns nearest to 0.001, -0.001 and 32.767 (IEEE 754, worked by hand from R217). -/
theorem test_axis_float : axisFloat 1 = 0x3A83126F ∧ axisFloat 0xFFFF = 0xBA83126F ∧ axisFloat 0x7FFF = 0x42031168 := by
  decide +kernel
/-- V31. -/
theorem test_reconcile :
    (nextOf (exec .reconcile { State.reset with cur := { zeroControl with stage := true } })).map (fun t =>
      (t.prev.stage, t.cur.stage)) = some (true, true) := by decide
/-- V31, P3: the rising edge as READ_CONTROL shows it. -/
theorem test_read_control :
    (nextOf (exec .readControl { State.reset with cur := { zeroControl with stage := true }, ctlValid := true })).map (fun t =>
      (t.readOut.cur.stage, t.readOut.prev.stage, t.readOut.valid)) = some (true, false, true) := by decide

/-! ## Checksum and frame codec -/

/-- V1, V2. -/
theorem test_cksum_handshake : cksum 4 [0, 1, 2, 3] = 4 ∧ cksum 4 [0, 3, 1, 4] = 2 := by decide
/-- V3, V4. -/
theorem test_cksum_long : (nextOf (exec (.cksum 0xFF (2 :: List.replicate 254 0)) State.reset)).map State.cksumOut = some 0xFD ∧
    cksum 0x19 (0x65 :: s1Body) = 0x28 := by decide +kernel
/-- V9. -/
theorem test_expected_len : [0, 101, 1, 190, 255].map (fun id => (nextOf (exec (.expectedLen id) State.reset)).map
    State.explenOut) = [some 4, some 25, some 0, some 0, some 0] := by decide
/-- V5, V6. -/
theorem test_encode :
    (nextOf (exec (.encodeFrame 0 [0, 3, 1, 4]) State.reset)).map State.tx = some [0xBE, 0xEF, 4, 0, 3, 1, 4, 2] ∧
    (nextOf (exec (.encodeFrame 2 (2 :: List.replicate 254 0)) State.reset)).map State.tx =
      some ([0xBE, 0xEF, 0xFF, 2] ++ List.replicate 254 0 ++ [0xFD]) := by decide +kernel
/-- V7, V8, V9. -/
theorem test_encode_fails :
    [exec (.encodeFrame 2 (List.replicate 256 2)) State.reset, exec (.encodeFrame 0 []) State.reset,
      exec (.encodeFrame 0 [0x65, 0]) State.reset].map (fun r => (nextOf r).map fun t => (t.ev, t.tx)) =
      [some (.encFail .lenOverflow, []), some (.encFail .emptyPayload, []), some (.encFail .idMismatch, [])] := by decide +kernel
/-- The macro CTL of R98 and R86's offsets, on V20. -/
theorem test_control_macro : controlPayload 0xA1 2 0x0402 0x21 0x7F
    [0x01F4, 0xFC18, 0, 0xFFFF, 0x8000, 0x7FFF, 0xFE0C, 0x03E8, 0] = 0x65 :: v20Body := by decide

/-! ## Telemetry and handshake -/

/-- V32 (the tie rule does not matter on these). -/
theorem test_quant_table : ∀ tie ∈ [TieRule.halfAway, TieRule.halfEven],
    [0, 180, -180, 35998 / 100, -360, 455 / 10, 123456 / 1000, -123456 / 1000, 400, 65534 / 100, 1000, -65536 / 100, -1000].map
      (fun a => (quantWith tie (.real a)).map BitVec.toInt) =
      [0, 9000, -9000, 17999, -18000, 2275, 6173, -6173, 20000, 32767, 32767, -32768, -32768].map some := by decide +kernel
/-- V33. -/
theorem test_quant_ties :
    [1 / 4, -1 / 4, 5 / 4, -5 / 4, 3 / 4, 9001 / 100].map (fun a => (quantWith .halfAway (.real a)).map BitVec.toInt) =
      [13, -13, 63, -63, 38, 4501].map some ∧
    [1 / 4, -1 / 4, 5 / 4, -5 / 4, 3 / 4, 9001 / 100].map (fun a => (quantWith .halfEven (.real a)).map BitVec.toInt) =
      [12, -12, 62, -62, 38, 4500].map some := by decide +kernel
/-- The square root of 2 and its negative, 50 times which are 70.71... and -70.71... (R240, R241 worked by hand), and an
irrational angle beyond the range. -/
theorem test_quant_irrational : ∀ tie ∈ [TieRule.halfAway, TieRule.halfEven],
    [141, -142, 65600].map (fun h => (quantWith tie (.irrational h)).map BitVec.toInt) = [71, -71, 32767].map some := by decide
/-- V32: the wire bytes of 9000 and -18000. -/
theorem test_quant_wire_bytes : memWrite2 [0, 0] 0 (BitVec.ofInt 16 9000) = [0x28, 0x23] ∧
    memWrite2 [0, 0] 0 (BitVec.ofInt 16 (-18000)) = [0xB0, 0xB9] := by decide
/-- The empty payload is never `TELEMETRY_LEN` (R5: at least 1) bytes long (R246). -/
theorem test_tlm_send_empty : exec (.tlmSend []) State.reset = .next (raise (.encFail .lenMismatch) State.reset) := by
  have h : ¬(0 = Config.telemetryLen.toNat) := by
    have := Config.telemetryLenPred.isLt
    simp only [Config.telemetryLen, BitVec.toNat_ofNat]
    omega
  simp [exec, execTlmSend, h]
/-- V5, P4. -/
theorem test_hs_start : (nextOf (exec .hsStart { State.reset with hsAtt := 3 })).map (fun t => (t.hs, t.hsAtt, t.tx)) =
    some (.awaitingReply, 0, [0xBE, 0xEF, 4, 0, 1, 2, 3, 4]) := by decide
/-- V38. -/
theorem test_hs_start_twice : exec .hsStart { State.reset with hs := .awaitingReply } = .refused .handshakeStarted := by rfl
/-- P4: the fourteenth and the fifteenth poll. -/
theorem test_hs_poll :
    (nextOf (exec .hsPoll { State.reset with hs := .awaitingReply, hsAtt := 13 })).map (fun t => (t.hs, t.hsAtt, t.ev)) =
      some (.awaitingReply, 14, .none) ∧
    (nextOf (exec .hsPoll { State.reset with hs := .awaitingReply, hsAtt := 14 })).map (fun t => (t.hs, t.hsAtt, t.ev)) =
      some (.timedOut, 15, .hsTimeout) := by decide

/-! ## Reset, open, close -/

/-- V39, V40, R300 to R302: what the three write, and the bytes refused after CLOSE. -/
theorem test_reset_open_close :
    [Instr.resetBlock, .openLink, .closeLink].map (fun i =>
      (nextOf (exec i { collectingState .payload 4 [0, 3] with linkClosed := true, hs := .confirmed, ctlValid := true })).map
        fun t => (t.st, t.hs, t.ctlValid, t.linkClosed)) =
      [some (.idle, .notStarted, false, true), some (.idle, .notStarted, false, false),
        some (.idle, .notStarted, false, true)] := by decide +kernel
theorem test_closed_refuses : exec (.rxbyte 0xBE) { State.reset with linkClosed := true } = .refused .linkClosed := by rfl

/-! ## The step -/

theorem test_step_takes_one :
    (nextOf (step { State.reset with pending := [.strobe 0xBE, .strobe 0xEF] })).map (fun t => (t.st, t.pending)) =
      some (.sync, [.strobe 0xEF]) := by decide
theorem test_step_undecodable :
    step { State.reset with pending := [.cmd 0xE {}] } = .refused (.undecodable (.unassignedCmd 0xE)) := by rfl

/-! ## Witnesses: states and operands that meet the statements' hypotheses, at boundary values -/

/-- A Control payload. -/
def controlExample : List Byte := 0x65 :: v20Body

/-- In the middle of a Handshake frame, a reply awaited. -/
def midFrame : State := { collectingState .payload 4 [0, 3] with hs := .awaitingReply, hsAtt := 14 }

/-- Idle after a Control frame. -/
def idleAfterControl : State := { State.reset with cur := ctlRecord controlExample, ctlValid := true }

theorem witness_inv_midFrame : Inv midFrame where
  check_full := by decide
  payload_short := by decide
  id_registered := fun _ _ => ⟨by decide +kernel, by decide⟩
  cnt_byte := by decide
  attempts := by decide
  zero_until_valid := by decide
  group_zero := by decide

theorem witness_inv_idle : Inv idleAfterControl where
  check_full := by decide
  payload_short := by decide
  id_registered := by
    intro h
    rcases h with h | h <;> exact absurd h (by decide)
  cnt_byte := by decide
  attempts := by decide
  zero_until_valid := by decide
  group_zero := by decide

/-- For the statements over open links and the invariant, and the ones from IDLE with an open link. -/
theorem witness_open_links :
    midFrame.linkClosed = false ∧ idleAfterControl.linkClosed = false ∧ idleAfterControl.st = .idle ∧ (0xBF : Byte) ≠ 0xBE := by
  decide

theorem witness_SyncNeedsSecondMagicByteNext :
    ({ State.reset with st := .sync } : State).linkClosed = false ∧ ({ State.reset with st := .sync } : State).st = .sync ∧
      (0xBE : Byte) ≠ 0xEF := by decide

theorem witness_LengthByteLatched :
    ({ State.reset with st := .length } : State).linkClosed = false ∧ ({ State.reset with st := .length } : State).st = .length := by
  decide

theorem witness_IdByteAcceptedAtSlotZero : ([((4 : Byte), (0 : Byte)), (25, 101)].all fun x => decide (
    (collectingState .payload x.1 []).linkClosed = false ∧ (collectingState .payload x.1 []).st = .payload ∧
      (collectingState .payload x.1 []).cnt = 0 ∧ expectedLen x.2 ≠ 0 ∧
      expectedLen x.2 = (collectingState .payload x.1 []).rxLen)) = true := by decide

/-- The three ways of a size reject: an unregistered id, a wrong length, LEN 0. -/
theorem witness_IdByteRejectedBySize : ([((4 : Byte), (7 : Byte)), (24, 101), (0, 0)].all fun x => decide (
    (collectingState .payload x.1 []).linkClosed = false ∧ (collectingState .payload x.1 []).st = .payload ∧
      (collectingState .payload x.1 []).cnt = 0 ∧
      (expectedLen x.2 = 0 ∨ expectedLen x.2 ≠ (collectingState .payload x.1 []).rxLen))) = true := by decide

/-- The first and the last index a body byte can take. -/
theorem witness_BodyByteStoredAtCnt : ∀ n ∈ [1, 254],
    (collectingState .payload 255 (List.replicate n 0)).linkClosed = false ∧
      (collectingState .payload 255 (List.replicate n 0)).st = .payload ∧
      1 ≤ (collectingState .payload 255 (List.replicate n 0)).cnt ∧
      (collectingState .payload 255 (List.replicate n 0)).cnt < 255 := by decide +kernel

/-- A full Control payload in CHECK, and a checksum byte that does not match. -/
theorem witness_CompletedControlFrame_and_ChecksumMismatch :
    (collectingState .check 25 controlExample).linkClosed = false ∧ (collectingState .check 25 controlExample).st = .check ∧
      payloadOf (collectingState .check 25 controlExample) = controlExample ∧ controlExample.length = 25 ∧
      controlExample.head? = some 101 ∧ (0x8E : Byte) ≠ cksum 25 controlExample := by decide +kernel

/-- A full Handshake payload in CHECK, the confirming one and another. -/
theorem witness_CompletedHandshakeFrame : ([((3 : Byte), (1 : Byte), (4 : Byte)), (1, 2, 3)].all fun m => decide (
    (collectingState .check 4 [0, m.1, m.2.1, m.2.2]).linkClosed = false ∧
      (collectingState .check 4 [0, m.1, m.2.1, m.2.2]).st = .check ∧
      payloadOf (collectingState .check 4 [0, m.1, m.2.1, m.2.2]) = [0, m.1, m.2.1, m.2.2])) = true := by decide +kernel

theorem witness_ReceivedBytesRefusedWhileClosed :
    ({ State.reset with linkClosed := true } : State).linkClosed = true ∧ Instr.idleBe ∈ Instr.rxbyte 0xBE :: rowsOf 0xBE ∧
      ([0xBE] : List Byte) ≠ [] := by decide

/-- A matching and a mismatching checksum byte for a 24-byte body, and for a Handshake frame. -/
theorem witness_FramesDelivered :
    v20Body.length = 24 ∧ (0x8F : Byte) = cksum 25 (101 :: v20Body) ∧ (0x8E : Byte) ≠ cksum 25 (101 :: v20Body) ∧
      (2 : Byte) = cksum 4 [0, 3, 1, 4] ∧ (3 : Byte) ≠ cksum 4 [0, 3, 1, 4] := by decide

/-- CTL_DECODE's domain, two payloads that differ in ignored bits only, and the field rows. -/
theorem witness_CtlDecode_IgnoredBits_FieldRows :
    controlExample.length = 25 ∧ controlExample.head? = some 101 ∧
      ((controlExample.set 3 0x03).set 4 0xFC).set 6 0 ≠ controlExample ∧
      (((controlExample.set 3 0x03).set 4 0xFC).set 6 0).length = 25 ∧
      (∀ k < 25, k ∉ [3, 4, 6] → (((controlExample.set 3 0x03).set 4 0xFC).set 6 0).getD k 0 = controlExample.getD k 0) ∧
      (((controlExample.set 3 0x03).set 4 0xFC).set 6 0).getD 3 0 &&& 0xFE = controlExample.getD 3 0 &&& 0xFE ∧
      (((controlExample.set 3 0x03).set 4 0xFC).set 6 0).getD 4 0 &&& 0x07 = controlExample.getD 4 0 &&& 0x07 := by
  decide +kernel

/-- Payloads outside CTL_DECODE's domain: a wrong length, a wrong id. -/
theorem witness_CtlDecodeDomain :
    ¬((controlExample.dropLast).length = 25 ∧ (controlExample.dropLast).head? = some 101) ∧
      ¬((controlExample.set 0 100).length = 25 ∧ (controlExample.set 0 100).head? = some 101) := by decide

theorem witness_CksumOrder : List.Perm ([1, 2] : List Byte) [2, 1] := by decide

/-- The two clauses of CKSUM meet between 255 and 256 bytes; it completes on both. -/
theorem witness_CksumLengths : (List.replicate 255 (1 : Byte)).length ≤ 255 ∧ ¬(List.replicate 256 (1 : Byte)).length ≤ 255 ∧
    ((nextOf (exec (.cksum 255 (List.replicate 256 1)) State.reset)).map State.ev) = some .none ∧
    decode (.cmd 0x7 { byte := 255, bytes := List.replicate 256 1 }) = .ok (.cksum 255 (List.replicate 256 1)) :=
  ⟨by decide +kernel, by decide +kernel, rfl, rfl⟩

/-- Both sides of the zero test: the confirming Handshake frame with its checksum byte (V2), and with another (V14). -/
theorem witness_FramedPayloadFoldsToZero :
    ([4, 0, 3, 1, 4, 2] : List Byte).foldl (· ^^^ ·) 0 = 0 ∧ ([4, 0, 3, 1, 4, 3] : List Byte).foldl (· ^^^ ·) 0 ≠ 0 := by decide

theorem witness_OneFlippedBit : 0 < 8 ∧ 7 < 8 ∧ 0 < ([0x65] : List Byte).length := by decide

/-- The encoder's clauses meet at lengths 0, 1, 255 and 256. -/
theorem witness_EncodeLengths : ∀ n ∈ [0, 1, 255, 256],
    (nextOf (exec (.encodeFrame 2 (List.replicate n 2)) State.reset)).map State.ev =
      some (if n = 0 then .encFail .emptyPayload else if n = 256 then .encFail .lenOverflow else .none) := by decide +kernel

theorem witness_EncodedFrameLengthLaw :
    ∃ t, exec (.encodeFrame 0 [0, 3, 1, 4]) State.reset = .next t ∧ t.ev = .none := ⟨_, rfl, rfl⟩

theorem witness_RegisteredPayloadRoundTrips : ∀ x ∈ [((0 : Byte), ([0, 3, 1, 4] : List Byte)), (101, controlExample)],
    expectedLen x.1 ≠ 0 ∧ x.2.length = (expectedLen x.1).toNat ∧ x.2.head? = some x.1 := by decide

/-- Angles that denote real numbers: an exact half, an irrational one, zero in both spellings. -/
theorem witness_QuantRounds :
    angleDenotes (.real (1 / 4)) (1 / 4) ∧ |(1 / 4 : ℝ) * 50 - (12 : Int)| = 1 / 2 ∧ |(1 / 4 : ℝ) * 50 - (13 : Int)| = 1 / 2 ∧
      angleDenotes (.irrational 141) √2 ∧ angleDenotes (.real 0) 0 ∧ angleDenotes .negZero 0 := by
  have hs : √2 * √2 = (2 : ℝ) := Real.mul_self_sqrt (by norm_num)
  have h0 := Real.sqrt_nonneg 2
  refine ⟨by norm_num [angleDenotes], by norm_num [abs_of_nonneg], by norm_num [abs_of_neg],
    ⟨irrational_sqrt_two, ?_, ?_⟩, by norm_num [angleDenotes], rfl⟩ <;> push_cast <;> nlinarith

/-- An angle and its negative, and two angles in order, one of them irrational. -/
theorem witness_QuantSymmetric_and_Monotone :
    angleDenotes (.irrational (-142)) (-√2) ∧ angleDenotes (.irrational 141) √2 ∧ -√2 ≤ √2 ∧
      angleDenotes (.real (-1 / 4)) (-(1 / 4)) ∧ angleDenotes (.real (1 / 4)) (1 / 4) := by
  obtain ⟨-, -, -, ⟨hi, hl, hu⟩, -, -⟩ := witness_QuantRounds
  refine ⟨⟨hi.neg, ?_, ?_⟩, ⟨hi, hl, hu⟩, by linarith [Real.sqrt_nonneg 2], by norm_num [angleDenotes],
    by norm_num [angleDenotes]⟩ <;> push_cast at * <;> linarith

/-- A payload of `TELEMETRY_LEN` bytes; its first byte 1, and not 1. -/
theorem witness_TlmSend :
    (List.replicate Config.telemetryLen.toNat (1 : Byte)).length = Config.telemetryLen.toNat ∧
      (List.replicate Config.telemetryLen.toNat (0 : Byte)).length = Config.telemetryLen.toNat :=
  ⟨List.length_replicate, List.length_replicate⟩

theorem witness_HsStart : State.reset.hs = .notStarted ∧ midFrame.hs ≠ .notStarted := by decide

/-- The last poll inside the budget and the one that ends it. -/
theorem witness_HsPoll :
    State.reset.hs ≠ .awaitingReply ∧ midFrame.hs = .awaitingReply ∧ midFrame.hsAtt + 1 ≥ Config.hsMaxAttempts ∧
      ({ midFrame with hsAtt := 13 } : State).hsAtt + 1 < Config.hsMaxAttempts := by decide

theorem witness_HandshakeOutcomeIsTerminal : ∀ h ∈ [HsState.confirmed, .timedOut],
    ∃ t, exec .hsPoll { State.reset with hs := h } = .next t := by
  intro h hh
  fin_cases hh
  · exact ⟨_, rfl⟩
  · exact ⟨_, rfl⟩

/-- Operations after a CLOSE, none of them OPEN, that complete. -/
theorem witness_CloseResetsAndRefusesBytes :
    Instr.openLink ∉ [Instr.hsStart, .resetBlock, .readControl] ∧
      ∃ t u, exec .closeLink midFrame = .next t ∧ execAll [.hsStart, .resetBlock, .readControl] t = .next u :=
  ⟨by decide, _, _, rfl, rfl⟩

/-- A reject of each kind. -/
theorem witness_RejectChangesOnlySt :
    (nextOf (exec (.rxbyte 0x11) { State.reset with st := .sync })).map State.ev = some (.resync 0x11) ∧
    (nextOf (exec (.rxbyte 7) (collectingState .payload 4 []))).map State.ev = some (.rejSize 7 4 0) ∧
    (nextOf (exec (.rxbyte 3) (collectingState .check 4 [0, 3, 1, 4]))).map State.ev = some (.rejCksum 0 2 3) := by decide +kernel

/-- Instructions that are none of RESET, OPEN and CLOSE, of either agent, and complete. -/
theorem witness_WholeMachineRules :
    (∃ t, exec .readControl midFrame = .next t) ∧ Instr.agent .readControl = .host ∧
      Instr.readControl ∉ [Instr.resetBlock, .openLink, .closeLink, .reconcile] ∧
      Instr.format .readControl ≠ .frame ∧ (∀ bs, Instr.readControl ≠ .rxslice bs) ∧
      (∃ t, exec (.rxbyte 1) midFrame = .next t) ∧ Instr.agent (.rxbyte 1) = .transport :=
  ⟨⟨_, rfl⟩, rfl, by decide, by decide, nofun, ⟨_, rfl⟩, rfl⟩

theorem witness_ReceiverReturnsWithinOneFrame : (List.replicate 29 (0xBE : Byte)).length = 29 := by decide

theorem witness_Decode :
    (Instr.frameControl v20Body 0x8F).wellFormed = true ∧ decode (.rxRow .sync 2 0xBE) = .ok (.syncMiss 0xBE) :=
  ⟨by decide, rfl⟩

theorem witness_StepRunsDecodedInstruction :
    ({ midFrame with pending := [.strobe 1, .cmd 0xF {}] } : State).pending = [.strobe 1, .cmd 0xF {}] ∧
      decode (.strobe 1) = .ok (.rxbyte 1) ∧ decode (.cmd 0xF {}) = .error (.unassignedCmd 0xF) ∧ midFrame.pending = [] :=
  ⟨rfl, rfl, rfl, rfl⟩

/-- A step from a state of the invariant, in which an operation is presented. -/
theorem witness_EveryStepKeepsInvariant :
    Inv { midFrame with pending := [.strobe 1] } ∧ ∃ t, step { midFrame with pending := [.strobe 1] } = .next t := by
  refine ⟨?_, _, rfl⟩
  obtain ⟨h1, h2, h3, h4, h5, h6, h7⟩ := witness_inv_midFrame
  exact ⟨h1, h2, h3, h4, h5, h6, h7⟩

/-- Two different states with the same meaning: a stale byte beyond `cnt`. -/
theorem witness_UnspecifiedValuesNeverShow :
    Inv { midFrame with buf := midFrame.buf.set 9 7, free := 5 } ∧
      SameMeaning midFrame { midFrame with buf := midFrame.buf.set 9 7, free := 5 } ∧
      midFrame ≠ { midFrame with buf := midFrame.buf.set 9 7, free := 5 } := by
  have hr : ∀ i < 2, (midFrame.buf.set 9 7)[i]? = midFrame.buf[i]? := by decide +kernel
  obtain ⟨h1, h2, _, h4, h5, h6, h7⟩ := witness_inv_midFrame
  exact ⟨⟨h1, h2, fun _ _ => ⟨by decide +kernel, by decide⟩, h4, h5, h6, h7⟩, ⟨rfl, fun _ => ⟨rfl, rfl, hr⟩⟩,
    by decide +kernel⟩

end Sys2Proof.Tests
end

section
/-! The step by what is presented (spec/00_scope.md R8): one equation for each branch of `step`, and O57 from the three. -/

namespace Sys2Proof.Machine

variable {s : State} {x : Transaction} {xs : List Transaction}

theorem step_of_pending_nil (hs : s.pending = []) : step s = .next s := by
  rw [step, hs]

theorem step_of_decode_ok {i : Instr} (hs : s.pending = x :: xs) (hx : decode x = .ok i) :
    step s = exec i { s with pending := xs } := by
  simp only [step, hs, hx]

theorem step_of_decode_error {e : DecodeError} (hs : s.pending = x :: xs) (hx : decode x = .error e) :
    step s = .refused (.undecodable e) := by
  simp only [step, hs, hx]

end Sys2Proof.Machine

namespace Sys2Proof.Proofs
open Sys2Proof.Machine

/-- Settles O57: each clause is the equation of one branch of `step`. -/
theorem stepRunsDecodedInstruction : Obligations.StepRunsDecodedInstruction :=
  ⟨fun _ _ _ _ => step_of_decode_ok, fun _ _ _ _ => step_of_decode_error, fun _ => step_of_pending_nil⟩

end Sys2Proof.Proofs
end

section
/-! The operations one step runs (spec/42_receiver.md R94, R163, spec/44_control_decoder.md R99): the 62 instructions are 14 kinds of
operation and the delivery of several bytes. What holds of each kind holds of every instruction. -/

namespace Sys2Proof.Machine

/-- The meanings of the instructions that are one operation each (R30, R168): a row of R94 or RXBYTE, one of RESET, OPEN
and CLOSE (which differ in what becomes of the link flag), a FIELD lane, or a command of the host. -/
inductive Operation : (State → Result) → Prop
  | row (c : RxClass) (b : Byte) : Operation fun s => takeRow c b (applyRule c b s) s
  | byte (b : Byte) : Operation (takeByte b)
  | resets (link : Bool → Bool) :
      Operation fun s => .next (raise .none { resetWrites s with linkClosed := link s.linkClosed })
  | controlField (f : ControlState → ControlState) : Operation (lane f)
  | markerField (f : Markers → Markers) : Operation (markerLane f)
  | reconcile : Operation execReconcile
  | readControl : Operation execReadControl
  | cksum (len : Byte) (p : List Byte) : Operation (execCksum len p)
  | expectedLen (id : Byte) : Operation (execExpectedLen id)
  | encodeFrame (id : Byte) (p : List Byte) : Operation (execEncodeFrame id p)
  | quant (a : Angle) : Operation (execQuant a)
  | tlmSend (p : List Byte) : Operation (execTlmSend p)
  | hsStart : Operation execHsStart
  | hsPoll : Operation execHsPoll

/-- An operation that runs as a lane of the Control record is one. -/
theorem Operation.of_eq_lane {m : State → Result} {f : ControlState → ControlState} (h : ∀ s, m s = lane f s) :
    Operation m := by
  rw [funext h]
  exact .controlField f

/-- An operation that runs as a marker lane is one. -/
theorem Operation.of_eq_markerLane {m : State → Result} {f : Markers → Markers} (h : ∀ s, m s = markerLane f s) :
    Operation m := by
  rw [funext h]
  exact .markerField f

/-- Every instruction delivers a byte sequence, and is then RXSLICE or a FRAME row (log 15), or is one operation. -/
theorem exec_deliver_or_operation (i : Instr) :
    (∃ bs, exec i = deliver bs ∧ (i.format = .frame ∨ i = .rxslice bs)) ∨ Operation (exec i) := by
  cases i with
  | frameHandshake | frameControl | frameTelemetry => exact .inl ⟨_, rfl, .inl rfl⟩
  | rxslice bs => exact .inl ⟨bs, rfl, .inr rfl⟩
  | idleBe => exact .inr (.row .idleBe Config.magic0)
  | idleSkip b => exact .inr (.row .idleSkip b)
  | syncEf => exact .inr (.row .syncEf Config.magic1)
  | syncMiss b => exact .inr (.row .syncMiss b)
  | lengthAny b => exact .inr (.row .lengthAny b)
  | payloadIdOk b => exact .inr (.row .payloadIdOk b)
  | payloadIdRej b => exact .inr (.row .payloadIdRej b)
  | payloadBody b => exact .inr (.row .payloadBody b)
  | checkOk b => exact .inr (.row .checkOk b)
  | checkFail b => exact .inr (.row .checkFail b)
  | rxbyte b => exact .inr (.byte b)
  | resetBlock => exact .inr (.resets id)
  | openLink => exact .inr (.resets fun _ => false)
  | closeLink => exact .inr (.resets fun _ => true)
  | hsMarker1 | hsMarker2 | hsMarker3 => exact .inr (.of_eq_markerLane fun s => by rw [exec]; rfl)
  | reconcile => exact .inr .reconcile
  | readControl => exact .inr .readControl
  | cksum len p => exact .inr (.cksum len p)
  | expectedLen id => exact .inr (.expectedLen id)
  | encodeFrame id p => exact .inr (.encodeFrame id p)
  | quant a => exact .inr (.quant a)
  | tlmSend p => exact .inr (.tlmSend p)
  | hsStart => exact .inr .hsStart
  | hsPoll => exact .inr .hsPoll
  | _ => exact .inr (.of_eq_lane fun s => by rw [exec]; rfl)

variable {s t : State} {b : Byte}

/-- A row that completes is RXBYTE of its byte (R161). -/
theorem takeByte_of_takeRow {c : RxClass} (h : takeRow c b (applyRule c b s) s = .next t) : takeByte b s = .next t := by
  obtain ⟨-, hc, -⟩ := takeRow_eq_next.1 h
  rwa [takeRow_of_selected hc] at h

/-- QUANT answers a next state only with a result on `quant_out` (R243). -/
theorem execQuant_eq_next {a : Angle} (h : execQuant a s = .next t) : ∃ q, t = raise .none { s with quantOut := q } := by
  unfold execQuant at h
  split at h
  · exact ⟨_, by simpa using h.symm⟩
  · simp at h

/-- TLM_SEND raises LEN_MISMATCH or is ENCODE with id 1 (R246). -/
theorem execTlmSend_cases (p : List Byte) (s : State) :
    execTlmSend p s = .next (encodeStep Config.idTelemetry p s) ∨
    execTlmSend p s = .next (raise (.encFail .lenMismatch) s) := by
  unfold execTlmSend
  split <;> simp

/-- HS_START answers a next state only from NotStarted, with the challenge encoded (R191). -/
theorem execHsStart_eq_next : execHsStart s = .next t ↔ s.hs = .notStarted ∧
    t = encodeStep Config.idHandshake challengePayload { s with hs := .awaitingReply, hsAtt := 0 } := by
  unfold execHsStart
  split
  · simp [*, eq_comm]
  · simp [*]

end Sys2Proof.Machine
end

section
/-! The invariant (spec/10_state.md R27): what each operation keeps of it, O59 and O58, and the reset values, O43. -/

namespace Sys2Proof.Machine

variable {s t : State} {b : Byte} {p : List Byte}

/-- The part of the invariant that no register of the receiver enters: the handshake and the snapshots (R32, R31, R28). -/
structure HostInv (s : State) : Prop where
  attempts : s.hsAtt ≤ Config.hsMaxAttempts ∧ (s.hs = .awaitingReply → s.hsAtt < Config.hsMaxAttempts)
  zero_until_valid : s.ctlValid = false → s.cur = zeroControl ∧ s.prev = zeroControl
  group_zero : s.cur.controlGroup[0] = false ∧ s.prev.controlGroup[0] = false

theorem Inv.host (hi : Inv s) : HostInv s := { hi with }

/-- Outside a payload the receiver's part of the invariant is that `cnt` is a byte (R27, R23). -/
theorem HostInv.inv_of_not_collecting (hh : HostInv s) (hc : ¬ s.collecting) (hn : s.cnt ≤ 255) : Inv s :=
  { hh with
    check_full := fun h => absurd (.inr h) hc
    payload_short := fun h => absurd (.inl h) hc
    id_registered := fun h => absurd h hc
    cnt_byte := hn }

theorem not_collecting_of_idle (h : s.st = .idle) : ¬ s.collecting := by simp [State.collecting, h]

theorem Inv.raise (hi : Inv s) (e : Event) : Inv (raise e s) := { hi with }

theorem Inv.emitTx (hi : Inv s) (bs : List Byte) : Inv (emitTx bs s) := { hi with }

theorem Inv.reject (hi : Inv s) (e : Event) : Inv (reject e s) :=
  HostInv.inv_of_not_collecting { hi with } (not_collecting_of_idle rfl) hi.cnt_byte

/-- A free value of `cnt` is a byte (R23). -/
theorem cnt_forgetFrame_le (s : State) : (forgetFrame s).cnt ≤ 255 :=
  Nat.le_of_lt_succ (Config.freeByte (s.free + 1)).isLt

theorem hostInv_resetWrites (s : State) : HostInv (resetWrites s) where
  attempts := by simp
  zero_until_valid := by simp
  group_zero := by simp [zeroControl]

theorem inv_resetWrites (s : State) : Inv (resetWrites s) :=
  (hostInv_resetWrites s).inv_of_not_collecting (not_collecting_of_idle rfl) (cnt_forgetFrame_le _)

/-- ENCODE writes the TX stream and the event only (R120). -/
theorem Inv.encodeStep (hi : Inv s) (id : Byte) (p : List Byte) : Inv (encodeStep id p s) := by
  rcases encodeStep_cases id p s with ⟨c, -, h⟩ | ⟨-, h⟩ <;> rw [h]
  · exact hi.raise _
  · exact (hi.emitTx _).raise _

/-- A decoded record has `control_group[0]` false (R28, R213). -/
theorem controlGroup_zero_of_ctlDecode {c : ControlState} (h : ctlDecode p = some c) : c.controlGroup[0] = false := by
  unfold ctlDecode at h
  split at h
  · cases h
    simp [ctlRecord, groupBit]
  · simp at h

/-- A reply resolves the handshake (R193). -/
theorem replyOutcome_ne_awaitingReply (m1 m2 m3 : Byte) : replyOutcome m1 m2 m3 ≠ .awaitingReply := by
  unfold replyOutcome
  split <;> simp

/-- The mux keeps the host's part of the invariant (R162). -/
theorem HostInv.dispatch (hh : HostInv s) (h : dispatch p s = .next t) : HostInv t := by
  rcases dispatch_eq_next h with ⟨c, hc, rfl⟩ | ⟨m1, m2, m3, rest, -, -, rfl⟩ | rfl
  · exact { hh with
      zero_until_valid := nofun
      group_zero := ⟨controlGroup_zero_of_ctlDecode hc, hh.group_zero.2⟩ }
  · exact { hh with
      attempts := ⟨hh.attempts.1, fun ha => absurd ha (replyOutcome_ne_awaitingReply m1 m2 m3)⟩ }
  · exact hh

/-- The mux writes no register of the receiver (R162). -/
theorem dispatch_receiver (h : dispatch p s = .next t) : t.st = s.st ∧ t.cnt = s.cnt := by
  rcases dispatch_eq_next h with ⟨c, -, rfl⟩ | ⟨m1, m2, m3, rest, -, -, rfl⟩ | rfl <;> exact ⟨rfl, rfl⟩

/-- The mux on a completed payload, the receiver being back in IDLE (R159). -/
theorem HostInv.inv_of_dispatch (hh : HostInv s) (hst : s.st = .idle) (hn : s.cnt ≤ 255)
    (h : Machine.dispatch p s = .next t) : Inv t := by
  obtain ⟨ht, hc⟩ := dispatch_receiver h
  exact (hh.dispatch h).inv_of_not_collecting (not_collecting_of_idle (ht.trans hst)) (hc ▸ hn)

theorem idAccepted_iff : idAccepted s b = true ↔ expectedLen b ≠ 0 ∧ expectedLen b = s.rxLen := by
  simp [idAccepted]

/-- An accepted id byte opens a payload that meets R27 (a) to (c), one of length 1 being complete at once (R156). -/
theorem Inv.storeId (hi : Inv s) (hb : idAccepted s b = true) :
    Inv { s with buf := s.buf.set 0 b, cnt := 1, st := if s.rxLen = 1 then .check else .payload, ev := .none } := by
  obtain ⟨hne, heq⟩ := idAccepted_iff.1 hb
  rw [heq] at hne
  have hpos : s.rxLen.toNat ≠ 0 := fun h => hne (BitVec.eq_of_toNat_eq h)
  by_cases h1 : s.rxLen = 1#8
  · exact { hi with
      check_full := fun _ => by simp [h1]
      payload_short := by simp [h1]
      id_registered := fun _ _ => ⟨by simpa using heq, hne⟩
      cnt_byte := by simp }
  · have hne1 : s.rxLen.toNat ≠ 1 := fun h => h1 (BitVec.eq_of_toNat_eq h)
    exact { hi with
      check_full := fun h => absurd h (by simp [h1])
      payload_short := fun _ => .inl (by show 1 < s.rxLen.toNat; omega)
      id_registered := fun _ _ => ⟨by simpa using heq, hne⟩
      cnt_byte := by simp }

/-- A further byte leaves the id at index 0, and the payload is complete exactly when `cnt` reaches `rx_len` (R158). -/
theorem Inv.storeBody (hi : Inv s) (hst : s.st = .payload) (hc : s.cnt ≠ 0) (hn : s.cnt < Config.bufSize) :
    Inv { s with
      buf := s.buf.set s.cnt b, cnt := s.cnt + 1,
      st := if s.cnt + 1 = s.rxLen.toNat then .check else .payload, ev := .none } := by
  have hlt : s.cnt < s.rxLen.toNat := (hi.payload_short hst).resolve_right hc
  have hlen : s.rxLen.toNat < 256 := s.rxLen.isLt
  obtain ⟨hid, hne⟩ := hi.id_registered (.inl hst) (by omega)
  have hid' : expectedLen (s.buf.set s.cnt b)[0] = s.rxLen := by rwa [Vector.getElem_set_ne _ _ hc]
  by_cases hfull : s.cnt + 1 = s.rxLen.toNat
  · exact { hi with
      check_full := fun _ => ⟨hfull, by show 1 ≤ s.rxLen.toNat; omega⟩
      payload_short := by simp [hfull]
      id_registered := fun _ _ => ⟨hid', hne⟩
      cnt_byte := by show s.cnt + 1 ≤ 255; omega }
  · exact { hi with
      check_full := by simp [hfull]
      payload_short := fun _ => .inl (by show s.cnt + 1 < s.rxLen.toNat; omega)
      id_registered := fun _ _ => ⟨hid', hne⟩
      cnt_byte := by show s.cnt + 1 ≤ 255; omega }

/-- Inside a payload `cnt` is an index of the buffer (R24, R27 (b)). -/
theorem Inv.cnt_lt_bufSize (hi : Inv s) (hst : s.st = .payload) : s.cnt < Config.bufSize := by
  have hlen : s.rxLen.toNat < 256 := s.rxLen.isLt
  have hshort := hi.payload_short hst
  simp only [Config.bufSize]
  omega

/-- One received byte keeps the invariant, whatever state it meets (R151 to R160). -/
theorem Inv.takeByte (hi : Inv s) (h : takeByte b s = .next t) : Inv t := by
  have ho : s.linkClosed = false := (takeByte_eq_next.1 h).1
  cases hst : s.st with
  | idle =>
    rw [takeByte_idle ho hst] at h
    cases h
    refine HostInv.inv_of_not_collecting { hi with } ?_ hi.cnt_byte
    by_cases hb : b = Config.magic0 <;> simp [State.collecting, hb]
  | sync =>
    rw [takeByte_sync ho hst] at h
    cases h
    split
    · exact HostInv.inv_of_not_collecting { hi with } (by simp [State.collecting]) hi.cnt_byte
    · exact hi.reject _
  | length =>
    rw [takeByte_length ho hst] at h
    cases h
    exact { hi with
      check_full := nofun
      payload_short := fun _ => .inr rfl
      id_registered := fun _ h => absurd h (by simp)
      cnt_byte := Nat.zero_le _ }
  | payload =>
    by_cases hc : s.cnt = 0
    · rw [takeByte_id ho hst hc] at h
      cases h
      split
      · exact hi.storeId ‹_›
      · exact hi.reject _
    · have hn := hi.cnt_lt_bufSize hst
      rw [takeByte_body ho hst hc hn] at h
      cases h
      exact hi.storeBody hst hc hn
  | check =>
    rw [takeByte_check ho hst] at h
    split at h
    · refine HostInv.inv_of_dispatch ?_ rfl ?_ h
      · exact { hi with }
      · exact cnt_forgetFrame_le _
    · cases h
      exact HostInv.inv_of_not_collecting { hi with } (not_collecting_of_idle rfl) hi.cnt_byte

/-- Every byte of a slice keeps the invariant, so the slice does (R163). -/
theorem Inv.takeBytes {bs : List Byte} (hi : Inv s) (h : takeBytes bs s = .next t) : Inv t := by
  induction bs generalizing s with
  | nil => cases h; exact hi
  | cons b bs ih =>
    obtain ⟨u, hu, h⟩ := andThen_eq_next.1 h
    refine ih ?_ h
    exact { hi.takeByte hu with }

theorem Inv.deliver {bs : List Byte} (hi : Inv s) (h : deliver bs s = .next t) : Inv t := by
  refine Inv.takeBytes ?_ h
  exact { hi with }

/-- HS_START opens the attempt budget (R191, R32). -/
theorem Inv.execHsStart (hi : Inv s) (h : execHsStart s = .next t) : Inv t := by
  obtain ⟨-, rfl⟩ := execHsStart_eq_next.1 h
  refine Inv.encodeStep ?_ _ _
  exact { hi with attempts := ⟨Nat.zero_le _, fun _ => by simp [Config.hsMaxAttempts]⟩ }

/-- HS_POLL counts inside the budget, and at its end awaits no reply any more (R192, R32). -/
theorem Inv.execHsPoll (hi : Inv s) (h : execHsPoll s = .next t) : Inv t := by
  unfold Machine.execHsPoll at h
  split at h
  · cases h
    exact hi.raise _
  · split at h <;> cases h
    · exact { hi with attempts := ⟨le_rfl, nofun⟩ }
    · have hlt : s.hsAtt + 1 < Config.hsMaxAttempts := by omega
      exact { hi with attempts := ⟨hlt.le, fun _ => hlt⟩ }

/-- RECONCILE copies `ctl.cur`, whose group 0 is false and which is ZERO_CONTROL until a Control frame (R222). -/
theorem Inv.execReconcile (hi : Inv s) (h : execReconcile s = .next t) : Inv t := by
  cases h
  exact { hi with
    zero_until_valid := fun hv => ⟨(hi.zero_until_valid hv).1, (hi.zero_until_valid hv).1⟩
    group_zero := ⟨hi.group_zero.1, hi.group_zero.1⟩ }

/-- Every operation keeps the invariant. -/
theorem Inv.operation {m : State → Result} (hm : Operation m) (hi : Inv s) (h : m s = .next t) : Inv t := by
  cases hm with
  | row => exact hi.takeByte (takeByte_of_takeRow h)
  | byte => exact hi.takeByte h
  | resets => cases h; exact { inv_resetWrites s with }
  | controlField | markerField | readControl | cksum | expectedLen => cases h; exact { hi with }
  | reconcile => exact hi.execReconcile h
  | encodeFrame => cases h; exact hi.encodeStep _ _
  | quant => obtain ⟨q, rfl⟩ := execQuant_eq_next h; exact { hi with }
  | tlmSend p =>
    rcases execTlmSend_cases p s with ht | ht <;> rw [ht] at h <;> cases h
    · exact hi.encodeStep _ _
    · exact hi.raise _
  | hsStart => exact hi.execHsStart h
  | hsPoll => exact hi.execHsPoll h

/-- Every instruction keeps the invariant. -/
theorem Inv.exec {i : Instr} (hi : Inv s) (h : exec i s = .next t) : Inv t := by
  rcases exec_deliver_or_operation i with ⟨bs, hd, -⟩ | hm
  · rw [hd] at h
    exact hi.deliver h
  · exact hi.operation hm h

/-- Every step keeps the invariant: it takes an instruction from the list, and runs it. -/
theorem Inv.step (hi : Inv s) (h : step s = .next t) : Inv t := by
  cases hp : s.pending with
  | nil =>
    rw [step_of_pending_nil hp] at h
    cases h
    exact hi
  | cons x xs =>
    cases hx : decode x with
    | error e => simp [step_of_decode_error hp hx] at h
    | ok i =>
      rw [step_of_decode_ok hp hx] at h
      refine Inv.exec ?_ h
      exact { hi with }

theorem inv_reset : Inv State.reset :=
  HostInv.inv_of_not_collecting
    { attempts := ⟨Nat.zero_le _, nofun⟩, zero_until_valid := fun _ => ⟨rfl, rfl⟩, group_zero := by decide }
    (not_collecting_of_idle rfl) (Nat.zero_le _)

/-- The snapshots of the reset state, with no group set (R36, R28). -/
theorem controlGroup_zeroControl (n : Fin 11) : zeroControl.controlGroup[n] = false := by
  simp [zeroControl]

end Sys2Proof.Machine

namespace Sys2Proof.Proofs
open Sys2Proof.Machine

/-- Settles O59: every kind of operation keeps the invariant, and a step runs operations. -/
theorem everyStepKeepsInvariant : Obligations.EveryStepKeepsInvariant :=
  fun _ _ hi h => hi.step h

/-- Settles O58: the reset state is outside a payload and holds ZERO_CONTROL twice. -/
theorem invariantHoldsAtReset : Obligations.InvariantHoldsAtReset := inv_reset

/-- Settles O43: the reset state's own fields, both snapshots being ZERO_CONTROL. -/
theorem resetStateValues : Obligations.ResetStateValues := by
  refine ⟨rfl, rfl, rfl, rfl, rfl, fun c hc => ?_⟩
  obtain rfl : c = zeroControl := by simpa [State.reset] using hc
  exact ⟨rfl, rfl, controlGroup_zeroControl, rfl, rfl, rfl⟩

end Sys2Proof.Proofs
end

section
/-! The event output and the event sequence (spec/10_state.md R30): every operation raises one event, O52. -/

namespace Sys2Proof.Machine

variable {s t : State} {b : Byte} {p : List Byte}

/-- The event sequence of `t` is that of `s` followed by `t`'s event output, nothing for NONE. -/
def RaisesOneEvent (s t : State) : Prop := t.events = s.events ++ t.ev.toList

/-- The mux raises nothing itself (R162). -/
theorem dispatch_events (h : dispatch p s = .next t) : t.ev = s.ev ∧ t.events = s.events := by
  rcases dispatch_eq_next h with ⟨c, -, rfl⟩ | ⟨m1, m2, m3, rest, -, -, rfl⟩ | rfl <;> exact ⟨rfl, rfl⟩

/-- Each rule of the receiver raises one event (R151 to R160). -/
theorem applyRule_raisesOneEvent {c : RxClass} (h : applyRule c b s = .next t) : RaisesOneEvent s t := by
  cases c with
  | idleBe | idleSkip | syncEf | syncMiss | lengthAny | payloadIdRej | checkFail => cases h; rfl
  | payloadIdOk =>
    rw [applyRule, rulePayloadIdOk] at h
    obtain ⟨-, rfl⟩ := bufStore_eq_next.1 h
    rfl
  | payloadBody =>
    rw [applyRule, rulePayloadBody] at h
    obtain ⟨-, rfl⟩ := bufStore_eq_next.1 h
    rfl
  | checkOk =>
    obtain ⟨hev, hevents⟩ := dispatch_events h
    rw [RaisesOneEvent, hev, hevents]
    rfl

theorem takeByte_raisesOneEvent (h : takeByte b s = .next t) : RaisesOneEvent s t :=
  applyRule_raisesOneEvent (takeByte_eq_next.1 h).2

/-- ENCODE raises NONE with its frame, ENC_FAIL without one (R120). -/
theorem encodeStep_raisesOneEvent (id : Byte) (p : List Byte) (s : State) : RaisesOneEvent s (encodeStep id p s) := by
  rcases encodeStep_cases id p s with ⟨c, -, h⟩ | ⟨-, h⟩ <;> rw [h] <;> rfl

theorem execHsPoll_raisesOneEvent (h : execHsPoll s = .next t) : RaisesOneEvent s t := by
  unfold execHsPoll at h
  split at h
  · cases h; rfl
  · split at h <;> cases h <;> rfl

/-- Every operation raises one event. -/
theorem Operation.raisesOneEvent {m : State → Result} (hm : Operation m) (h : m s = .next t) : RaisesOneEvent s t := by
  cases hm with
  | row => exact takeByte_raisesOneEvent (takeByte_of_takeRow h)
  | byte => exact takeByte_raisesOneEvent h
  | resets | controlField | markerField | reconcile | readControl | cksum | expectedLen => cases h; rfl
  | encodeFrame id p => cases h; exact encodeStep_raisesOneEvent id p s
  | quant => obtain ⟨q, rfl⟩ := execQuant_eq_next h; rfl
  | tlmSend p =>
    rcases execTlmSend_cases p s with ht | ht <;> rw [ht] at h <;> cases h
    · exact encodeStep_raisesOneEvent _ p s
    · rfl
  | hsStart => obtain ⟨-, rfl⟩ := execHsStart_eq_next.1 h; exact encodeStep_raisesOneEvent _ _ _
  | hsPoll => exact execHsPoll_raisesOneEvent h

end Sys2Proof.Machine

namespace Sys2Proof.Proofs
open Sys2Proof.Machine

/-- Settles O52: an instruction that is no delivery of several bytes is one operation. -/
theorem oneOperationRaisesOneEvent : Obligations.OneOperationRaisesOneEvent := by
  intro i s t hframe hslice h
  rcases exec_deliver_or_operation i with ⟨bs, -, hf | hs⟩ | hm
  · exact absurd hf hframe
  · exact absurd hs (hslice bs)
  · exact hm.raisesOneEvent h

end Sys2Proof.Proofs
end

section
/-! Unspecified values (spec/93_implementation_defined.md U1): two states of the invariant that differ only in them take the
same step, O60. The proof runs the two states side by side, one lemma for each shared update and each operation. -/

namespace Sys2Proof.Machine

variable {s s' t t' : State} {r r' : Result} {b : Byte} {p : List Byte}

/-- Two outcomes no host can tell apart: next states with the same meaning, or one refusal; never a fault. -/
inductive SameOutcome : Result → Result → Prop
  | next {t t' : State} (h : SameMeaning t t') : SameOutcome (.next t) (.next t')
  | refused (e : Refusal) : SameOutcome (.refused e) (.refused e)

/-- The second state is the first with other values in the four registers (U1). -/
theorem SameMeaning.exists_eq (h : SameMeaning s s') : ∃ l n v f,
    s' = { s with rxLen := l, cnt := n, buf := v, free := f } ∧
    (s.collecting → l = s.rxLen ∧ n = s.cnt ∧ ∀ i < s.cnt, v[i]? = s.buf[i]?) :=
  ⟨_, _, _, _, h⟩

/-- Outside a payload nothing is asked of the four registers. -/
theorem sameMeaning_of_not_collecting (hc : ¬ s.collecting)
    (h : s' = { s with rxLen := s'.rxLen, cnt := s'.cnt, buf := s'.buf, free := s'.free }) : SameMeaning s s' :=
  ⟨h, fun h => absurd h hc⟩

theorem SameMeaning.st_eq (h : SameMeaning s s') : s'.st = s.st := by rw [h.1]

theorem SameMeaning.linkClosed_eq (h : SameMeaning s s') : s'.linkClosed = s.linkClosed := by rw [h.1]

theorem SameMeaning.pending_eq (h : SameMeaning s s') : s'.pending = s.pending := by rw [h.1]

theorem SameMeaning.hs_eq (h : SameMeaning s s') : s'.hs = s.hs := by rw [h.1]

theorem SameMeaning.observe_eq (h : SameMeaning s s') : observe s' = observe s := by rw [h.1]; rfl

/-! ### The shared updates -/

theorem SameMeaning.raise (h : SameMeaning s s') (e : Event) : SameMeaning (raise e s) (raise e s') := by
  obtain ⟨l, n, v, f, rfl, hc⟩ := h.exists_eq
  exact ⟨rfl, hc⟩

theorem SameMeaning.reject (h : SameMeaning s s') (e : Event) : SameMeaning (reject e s) (reject e s') := by
  obtain ⟨l, n, v, f, rfl, -⟩ := h.exists_eq
  exact sameMeaning_of_not_collecting (not_collecting_of_idle rfl) rfl

theorem SameMeaning.encodeStep (h : SameMeaning s s') (id : Byte) (p : List Byte) :
    SameMeaning (encodeStep id p s) (encodeStep id p s') := by
  obtain ⟨l, n, v, f, rfl, hc⟩ := h.exists_eq
  unfold Machine.encodeStep
  split <;> exact ⟨rfl, hc⟩

/-- A sequence of two parts: the second part is asked only about what the first ends in. -/
theorem SameOutcome.andThen {k k' : State → Result} (h : SameOutcome r r')
    (hk : ∀ t t', r = .next t → r' = .next t' → SameMeaning t t' → SameOutcome (k t) (k' t')) :
    SameOutcome (andThen r k) (andThen r' k') := by
  cases h with
  | next h => exact hk _ _ rfl rfl h
  | refused e => exact .refused e

/-! ### The payload and the mux -/

/-- A complete payload holds no unspecified value (R24, R27 (a)). -/
theorem SameMeaning.payload_eq (hi : Inv s) (h : SameMeaning s s') (hst : s.st = .check) :
    s'.rxLen = s.rxLen ∧ payloadOf s' = payloadOf s := by
  obtain ⟨-, hc⟩ := h
  obtain ⟨hlen, -, hbuf⟩ := hc (.inr hst)
  obtain ⟨hfull, -⟩ := hi.check_full hst
  exact ⟨hlen, payloadOf_congr hlen (hfull ▸ hbuf)⟩

/-- Only ids 0 and 101 are registered (R83, log 11). -/
theorem registered_cases {id : Byte} (h : expectedLen id ≠ 0) :
    (id = Config.idHandshake ∧ (expectedLen id).toNat = 4) ∨ (id = Config.idControl ∧ (expectedLen id).toNat = 25) := by
  by_cases h0 : id = Config.idHandshake
  · exact .inl ⟨h0, by rw [h0]; rfl⟩
  · by_cases h1 : id = Config.idControl
    · exact .inr ⟨h1, by rw [h1]; rfl⟩
    · refine absurd ?_ h
      simp [expectedLen, expectedLenWith, h0, h1, Config.rxTelemetryRegistered]

/-- A payload that starts with a registered id and has the length registered for it. -/
def RegisteredPayload (p : List Byte) : Prop :=
  ∃ id body, p = id :: body ∧ expectedLen id ≠ 0 ∧ p.length = (expectedLen id).toNat

/-- What the receiver collects is registered (R27 (a), (c)). -/
theorem Inv.registeredPayload (hi : Inv s) (hst : s.st = .check) : RegisteredPayload (payloadOf s) := by
  obtain ⟨hfull, hpos⟩ := hi.check_full hst
  obtain ⟨hid, hne⟩ := hi.id_registered (.inr hst) (hfull ▸ hpos)
  obtain ⟨body, hp⟩ := List.head?_eq_some_iff.1 (head?_payloadOf hne)
  exact ⟨_, body, hp, hid ▸ hne, by rw [hid, length_payloadOf]⟩

/-- On a registered payload the mux meets none of the cases R162 calls unreachable: it decodes a Control record or it
looks at three markers. -/
theorem dispatch_of_registered (hp : RegisteredPayload p) :
    (∃ c, ∀ s, dispatch p s = .next { s with cur := c, ctlValid := true }) ∨
    ∃ m1 m2 m3, ∀ s, dispatch p s = .next (if s.hs = .awaitingReply then handshakeReply m1 m2 m3 s else s) := by
  obtain ⟨id, body, rfl, hne, hlen⟩ := hp
  rcases registered_cases hne with ⟨rfl, h4⟩ | ⟨rfl, h25⟩
  · rw [h4] at hlen
    match body, hlen with
    | [m1, m2, m3], _ => exact .inr ⟨m1, m2, m3, fun _ => rfl⟩
  · refine .inl ⟨ctlRecord (Config.idControl :: body), fun s => ?_⟩
    have hd : ctlDecode (Config.idControl :: body) = some (ctlRecord (Config.idControl :: body)) :=
      if_pos ⟨hlen, rfl⟩
    simp [dispatch, hd]

theorem SameMeaning.dispatch (hp : RegisteredPayload p) (h : SameMeaning s s') :
    SameOutcome (dispatch p s) (dispatch p s') := by
  obtain ⟨l, n, v, f, rfl, hc⟩ := h.exists_eq
  rcases dispatch_of_registered hp with ⟨c, hd⟩ | ⟨m1, m2, m3, hd⟩ <;> rw [hd, hd]
  · exact .next ⟨rfl, hc⟩
  · by_cases ha : s.hs = .awaitingReply <;> simp only [ha, if_true, if_false] <;> exact .next ⟨rfl, hc⟩

/-! ### The receiver -/

theorem idAccepted_congr (h : s'.rxLen = s.rxLen) (b : Byte) : idAccepted s' b = idAccepted s b := by
  simp only [idAccepted, h]

/-- Which rule a byte selects does not depend on an unspecified value (R94). -/
theorem SameMeaning.classify_eq (hi : Inv s) (h : SameMeaning s s') (b : Byte) : classify s' b = classify s b := by
  unfold classify
  rw [h.st_eq]
  cases hst : s.st with
  | idle | sync | length => rfl
  | payload =>
    obtain ⟨hlen, hcnt, -⟩ := h.2 (.inl hst)
    rw [hcnt, idAccepted_congr hlen]
  | check =>
    obtain ⟨hlen, hpay⟩ := h.payload_eq hi hst
    simp only [hlen, hpay]

/-- Storing at `cnt` makes the byte at `cnt` a specified one and leaves those below it (R24, R158). -/
theorem getElem?_set_congr {n : Nat} {v w : Buffer} (hn : n < Config.bufSize) (h : ∀ i < n, v[i]? = w[i]?) :
    ∀ i < n + 1, (v.set n b hn)[i]? = (w.set n b hn)[i]? := by
  intro i hi
  by_cases hin : n = i
  · subst hin
    rw [Vector.getElem?_set_self, Vector.getElem?_set_self]
  · rw [Vector.getElem?_set_ne _ hin, Vector.getElem?_set_ne _ hin]
    exact h i (by omega)

/-- The id byte (R156, R157): what is stored is the one byte below the new `cnt`. -/
theorem SameMeaning.takeByte_id (h : SameMeaning s s') (ho : s.linkClosed = false) (hst : s.st = .payload)
    (hc : s.cnt = 0) (b : Byte) : SameOutcome (takeByte b s) (takeByte b s') := by
  obtain ⟨hlen, hcnt, -⟩ := h.2 (.inl hst)
  rw [Machine.takeByte_id ho hst hc,
    Machine.takeByte_id (h.linkClosed_eq.trans ho) (h.st_eq.trans hst) (hcnt.trans hc), idAccepted_congr hlen, hlen]
  split
  · obtain ⟨l, n, v, f, rfl, -⟩ := h.exists_eq
    refine .next ⟨rfl, fun _ => ⟨rfl, rfl, ?_⟩⟩
    exact getElem?_set_congr (by decide) fun i hi => absurd hi (Nat.not_lt_zero i)
  · exact .next (h.reject _)

/-- A further payload byte (R158). -/
theorem SameMeaning.takeByte_body (hi : Inv s) (h : SameMeaning s s') (ho : s.linkClosed = false)
    (hst : s.st = .payload) (hc : s.cnt ≠ 0) (b : Byte) : SameOutcome (takeByte b s) (takeByte b s') := by
  have hn := hi.cnt_lt_bufSize hst
  obtain ⟨-, hcnt, -⟩ := h.2 (.inl hst)
  rw [Machine.takeByte_body ho hst hc hn, Machine.takeByte_body (h.linkClosed_eq.trans ho) (h.st_eq.trans hst)
    (hcnt ▸ hc) (hcnt ▸ hn)]
  obtain ⟨l, n, v, f, rfl, hu⟩ := h.exists_eq
  obtain ⟨rfl, rfl, hbuf⟩ := hu (.inl hst)
  exact .next ⟨rfl, fun _ => ⟨rfl, rfl, getElem?_set_congr hn hbuf⟩⟩

/-- The checksum byte (R159, R160): the payload it closes is specified, and what is forgotten afterwards is not. -/
theorem SameMeaning.takeByte_check (hi : Inv s) (h : SameMeaning s s') (ho : s.linkClosed = false)
    (hst : s.st = .check) (b : Byte) : SameOutcome (takeByte b s) (takeByte b s') := by
  obtain ⟨hlen, hpay⟩ := h.payload_eq hi hst
  rw [Machine.takeByte_check ho hst, Machine.takeByte_check (h.linkClosed_eq.trans ho) (h.st_eq.trans hst), hlen, hpay]
  obtain ⟨l, n, v, f, rfl, -⟩ := h.exists_eq
  split
  · exact SameMeaning.dispatch (hi.registeredPayload hst)
      (sameMeaning_of_not_collecting (not_collecting_of_idle rfl) rfl)
  · exact .next (sameMeaning_of_not_collecting (not_collecting_of_idle rfl) rfl)

/-- One received byte (R151 to R160), state by state. -/
theorem SameMeaning.takeByte (hi : Inv s) (h : SameMeaning s s') (b : Byte) :
    SameOutcome (takeByte b s) (takeByte b s') := by
  cases ho : s.linkClosed with
  | true =>
    rw [Machine.takeByte, Machine.takeByte, whenOpen_closed ho, whenOpen_closed (h.linkClosed_eq.trans ho)]
    exact .refused _
  | false =>
    have ho' := h.linkClosed_eq.trans ho
    cases hst : s.st with
    | idle =>
      rw [takeByte_idle ho hst, takeByte_idle ho' (h.st_eq.trans hst)]
      obtain ⟨l, n, v, f, rfl, -⟩ := h.exists_eq
      refine .next (sameMeaning_of_not_collecting ?_ rfl)
      by_cases hb : b = Config.magic0 <;> simp [State.collecting, hb]
    | sync =>
      rw [takeByte_sync ho hst, takeByte_sync ho' (h.st_eq.trans hst)]
      split
      · obtain ⟨l, n, v, f, rfl, -⟩ := h.exists_eq
        exact .next (sameMeaning_of_not_collecting (by simp [State.collecting]) rfl)
      · exact .next (h.reject _)
    | length =>
      rw [takeByte_length ho hst, takeByte_length ho' (h.st_eq.trans hst)]
      obtain ⟨l, n, v, f, rfl, -⟩ := h.exists_eq
      exact .next ⟨rfl, fun _ => ⟨rfl, rfl, fun i hi => absurd hi (Nat.not_lt_zero i)⟩⟩
    | payload =>
      by_cases hc : s.cnt = 0
      · exact h.takeByte_id ho hst hc b
      · exact h.takeByte_body hi ho hst hc b
    | check => exact h.takeByte_check hi ho hst b

/-- A row run by name (log 14): whether it is selected does not depend on an unspecified value. -/
theorem SameMeaning.takeRow (hi : Inv s) (h : SameMeaning s s') (c : RxClass) (b : Byte) :
    SameOutcome (takeRow c b (applyRule c b s) s) (takeRow c b (applyRule c b s') s') := by
  by_cases hc : classify s b = c
  · rw [takeRow_of_selected hc, takeRow_of_selected ((h.classify_eq hi b).trans hc)]
    exact h.takeByte hi b
  · have hc' : classify s' b ≠ c := h.classify_eq hi b ▸ hc
    simp only [Machine.takeRow, whenOpen, h.linkClosed_eq, hc, hc', if_false]
    split <;> exact .refused _

theorem SameMeaning.noteSliceEvent (h : SameMeaning s s') : SameMeaning (noteSliceEvent s) (noteSliceEvent s') := by
  obtain ⟨l, n, v, f, rfl, hc⟩ := h.exists_eq
  exact ⟨rfl, hc⟩

/-- A slice, byte by byte, the invariant holding of the state each byte meets (R163). -/
theorem SameMeaning.takeBytes (bs : List Byte) (hi : Inv s) (h : SameMeaning s s') :
    SameOutcome (takeBytes bs s) (takeBytes bs s') := by
  induction bs generalizing s s' with
  | nil => exact .next h
  | cons b bs ih =>
    refine (h.takeByte hi b).andThen fun t t' ht _ hm => ih ?_ hm.noteSliceEvent
    exact { hi.takeByte ht with }

theorem SameMeaning.deliver (bs : List Byte) (hi : Inv s) (h : SameMeaning s s') :
    SameOutcome (deliver bs s) (deliver bs s') := by
  obtain ⟨l, n, v, f, rfl, hc⟩ := h.exists_eq
  refine SameMeaning.takeBytes bs ?_ ⟨rfl, hc⟩
  exact { hi with }

/-! ### The host's commands and the step -/

theorem SameMeaning.execQuant (h : SameMeaning s s') (a : Angle) : SameOutcome (execQuant a s) (execQuant a s') := by
  obtain ⟨l, n, v, f, rfl, hc⟩ := h.exists_eq
  unfold Machine.execQuant
  split
  · exact .next ⟨rfl, hc⟩
  · exact .refused _

theorem SameMeaning.execTlmSend (h : SameMeaning s s') (p : List Byte) :
    SameOutcome (execTlmSend p s) (execTlmSend p s') := by
  unfold Machine.execTlmSend
  split
  · exact .next (h.encodeStep _ _)
  · exact .next (h.raise _)

theorem SameMeaning.execHsStart (h : SameMeaning s s') : SameOutcome (execHsStart s) (execHsStart s') := by
  unfold Machine.execHsStart
  rw [h.hs_eq]
  split
  · obtain ⟨l, n, v, f, rfl, hc⟩ := h.exists_eq
    exact .next (SameMeaning.encodeStep ⟨rfl, hc⟩ _ _)
  · exact .refused _

theorem SameMeaning.execHsPoll (h : SameMeaning s s') : SameOutcome (execHsPoll s) (execHsPoll s') := by
  obtain ⟨l, n, v, f, rfl, hc⟩ := h.exists_eq
  unfold Machine.execHsPoll
  split
  · exact .next ⟨rfl, hc⟩
  · split <;> exact .next ⟨rfl, hc⟩

/-- Every operation. -/
theorem SameMeaning.operation {m : State → Result} (hm : Operation m) (hi : Inv s) (h : SameMeaning s s') :
    SameOutcome (m s) (m s') := by
  cases hm with
  | row c b => exact h.takeRow hi c b
  | byte b => exact h.takeByte hi b
  | resets link =>
    obtain ⟨l, n, v, f, rfl, -⟩ := h.exists_eq
    exact .next (sameMeaning_of_not_collecting (not_collecting_of_idle rfl) rfl)
  | controlField | markerField | reconcile | readControl | cksum | expectedLen =>
    obtain ⟨l, n, v, f, rfl, hc⟩ := h.exists_eq
    exact .next ⟨rfl, hc⟩
  | encodeFrame id p => exact .next (h.encodeStep id p)
  | quant a => exact h.execQuant a
  | tlmSend p => exact h.execTlmSend p
  | hsStart => exact h.execHsStart
  | hsPoll => exact h.execHsPoll

theorem SameMeaning.exec (i : Instr) (hi : Inv s) (h : SameMeaning s s') : SameOutcome (exec i s) (exec i s') := by
  rcases exec_deliver_or_operation i with ⟨bs, hd, -⟩ | hm
  · rw [hd]
    exact h.deliver bs hi
  · exact h.operation hm hi

theorem SameMeaning.step (hi : Inv s) (h : SameMeaning s s') : SameOutcome (step s) (step s') := by
  have hp' := h.pending_eq
  cases hp : s.pending with
  | nil =>
    rw [step_of_pending_nil hp, step_of_pending_nil (hp'.trans hp)]
    exact .next h
  | cons x xs =>
    cases hx : decode x with
    | error e =>
      rw [step_of_decode_error hp hx, step_of_decode_error (hp'.trans hp) hx]
      exact .refused _
    | ok i =>
      rw [step_of_decode_ok hp hx, step_of_decode_ok (hp'.trans hp) hx]
      obtain ⟨l, n, v, f, rfl, hc⟩ := h.exists_eq
      refine SameMeaning.exec i ?_ ⟨rfl, hc⟩
      exact { hi with }

/-- What the same outcome says of each way a step can end. -/
theorem SameOutcome.clauses (h : SameOutcome r r') :
    (∀ t, r = .next t → ∃ t', r' = .next t' ∧ SameMeaning t t') ∧ (∀ e, r = .refused e → r' = .refused e) ∧
      ∀ f, r ≠ .fault f := by
  cases h with
  | next h => exact ⟨fun t ht => ⟨_, rfl, by cases ht; exact h⟩, by simp, by simp⟩
  | refused e => exact ⟨by simp, fun _ he => he, by simp⟩

end Sys2Proof.Machine

namespace Sys2Proof.Proofs
open Sys2Proof.Machine

/-- Settles O60: under the invariant of the first state the two steps have the same outcome. -/
theorem unspecifiedValuesNeverShow : Obligations.UnspecifiedValuesNeverShow := by
  intro s s' hi _ h
  exact ⟨h.observe_eq, (h.step hi).clauses⟩

end Sys2Proof.Proofs
end

section
/-! The TX stream (spec/20_memory.md R64, spec/42_receiver.md R168): the receiver emits nothing, ENCODE emits its one frame or
nothing, and the other commands that emit run ENCODE, O50. -/

namespace Sys2Proof.Machine

variable {s t : State} {b : Byte} {p : List Byte}

/-- The mux emits nothing (R162). -/
theorem dispatch_tx (h : dispatch p s = .next t) : t.tx = s.tx := by
  rcases dispatch_eq_next h with ⟨c, -, rfl⟩ | ⟨m1, m2, m3, rest, -, -, rfl⟩ | rfl <;> rfl

theorem bufStore_tx {a : Nat} (h : bufStore a b s = .next t) : t.tx = s.tx := by
  obtain ⟨-, rfl⟩ := bufStore_eq_next.1 h
  rfl

/-- No rule of the receiver emits (R151 to R160). -/
theorem applyRule_tx {c : RxClass} (h : applyRule c b s = .next t) : t.tx = s.tx := by
  cases c with
  | idleBe | idleSkip | syncEf | syncMiss | lengthAny | payloadIdRej | checkFail => cases h; rfl
  | payloadIdOk | payloadBody =>
    simp only [applyRule, rulePayloadIdOk, rulePayloadBody] at h
    rw [bufStore_tx h, raise_tx]
  | checkOk => exact (dispatch_tx h).trans rfl

/-- No received byte emits anything (R168). -/
theorem takeByte_tx (h : takeByte b s = .next t) : t.tx = s.tx :=
  applyRule_tx (takeByte_eq_next.1 h).2

/-- Nor does a row of R94 run by name (log 14). -/
theorem takeRow_tx (c : RxClass) (b : Byte) (h : takeRow c b (applyRule c b s) s = .next t) : t.tx = s.tx :=
  takeByte_tx (takeByte_of_takeRow h)

theorem takeBytes_tx {bs : List Byte} (h : takeBytes bs s = .next t) : t.tx = s.tx := by
  induction bs generalizing s with
  | nil => cases h; rfl
  | cons b bs ih =>
    obtain ⟨u, hu, h⟩ := andThen_eq_next.1 h
    calc t.tx = (noteSliceEvent u).tx := ih h
      _ = u.tx := noteSliceEvent_tx u
      _ = s.tx := takeByte_tx hu

theorem deliver_tx {bs : List Byte} (h : deliver bs s = .next t) : t.tx = s.tx :=
  (takeBytes_tx h).trans rfl

theorem execHsPoll_tx (h : execHsPoll s = .next t) : t.tx = s.tx := by
  unfold execHsPoll at h
  split at h
  · cases h; rfl
  · split at h <;> cases h <;> rfl

/-- From `s` to `t` the TX stream has grown by the frame of `p`, which ENCODE can frame under `id` (R120). -/
structure EmitsFrame (id : Byte) (p : List Byte) (s t : State) : Prop where
  tx : t.tx = s.tx ++ frameOf p
  head : p.head? = some id
  length_le : p.length ≤ 255

/-- A payload with an id is not empty (R120). -/
theorem EmitsFrame.length_pos {id : Byte} (h : EmitsFrame id p s t) : 1 ≤ p.length :=
  List.length_pos_of_mem (List.mem_of_mem_head? h.head)

theorem EmitsFrame.headD_eq {id : Byte} (h : EmitsFrame id p s t) : p.headD 0 = id := by
  rw [List.headD_eq_head?_getD, h.head, Option.getD_some]

/-- ENCODE emits nothing with ENC_FAIL, and otherwise the frame of its payload (R120, R64). -/
theorem encodeStep_tx (id : Byte) (p : List Byte) (s : State) :
    (encodeStep id p s).tx = s.tx ∨ EmitsFrame id p s (encodeStep id p s) := by
  rcases encodeStep_cases id p s with ⟨c, -, h⟩ | ⟨hf, h⟩ <;> rw [h]
  · exact .inl rfl
  · obtain ⟨hlen, hhead⟩ := encodeFailure_eq_none.1 hf
    exact .inr ⟨rfl, hhead, hlen⟩

/-- TLM_SEND emits nothing with ENC_FAIL, and otherwise is ENCODE with id 1 (R246). -/
theorem execTlmSend_tx (h : execTlmSend p s = .next t) : t.tx = s.tx ∨ EmitsFrame Config.idTelemetry p s t := by
  rcases execTlmSend_cases p s with ht | ht <;> rw [ht] at h <;> cases h
  · exact encodeStep_tx _ p s
  · exact .inl rfl

/-- HS_START encodes the challenge (R191); what it writes before that is no part of the TX stream. -/
theorem execHsStart_tx (h : execHsStart s = .next t) :
    t.tx = s.tx ∨ EmitsFrame Config.idHandshake challengePayload s t := by
  obtain ⟨-, rfl⟩ := execHsStart_eq_next.1 h
  rcases encodeStep_tx Config.idHandshake challengePayload { s with hs := .awaitingReply, hsAtt := 0 } with htx | he
  · exact .inl htx
  · exact .inr { he with }

/-- What emits a frame: an ENCODE, a TLM_SEND or the HS_START, each that of its own payload (R98). -/
theorem exec_tx {i : Instr} (h : exec i s = .next t) :
    t.tx = s.tx ∨ ∃ id p, EmitsFrame id p s t ∧
      (i = .encodeFrame id p ∨ i = .tlmSend p ∨ (i = .hsStart ∧ p = challengePayload)) := by
  cases i with
  | encodeFrame id p => cases h; exact (encodeStep_tx id p s).imp_right fun he => ⟨id, p, he, .inl rfl⟩
  | tlmSend p => exact (execTlmSend_tx h).imp_right fun he => ⟨_, p, he, .inr (.inl rfl)⟩
  | hsStart => exact (execHsStart_tx h).imp_right fun he => ⟨_, _, he, .inr (.inr ⟨rfl, rfl⟩)⟩
  | frameHandshake | frameControl | frameTelemetry | rxslice => exact .inl (deliver_tx h)
  | rxbyte => exact .inl (takeByte_tx h)
  | idleBe => exact .inl (takeRow_tx .idleBe Config.magic0 h)
  | idleSkip b => exact .inl (takeRow_tx .idleSkip b h)
  | syncEf => exact .inl (takeRow_tx .syncEf Config.magic1 h)
  | syncMiss b => exact .inl (takeRow_tx .syncMiss b h)
  | lengthAny b => exact .inl (takeRow_tx .lengthAny b h)
  | payloadIdOk b => exact .inl (takeRow_tx .payloadIdOk b h)
  | payloadIdRej b => exact .inl (takeRow_tx .payloadIdRej b h)
  | payloadBody b => exact .inl (takeRow_tx .payloadBody b h)
  | checkOk b => exact .inl (takeRow_tx .checkOk b h)
  | checkFail b => exact .inl (takeRow_tx .checkFail b h)
  | quant => obtain ⟨q, rfl⟩ := execQuant_eq_next h; exact .inl rfl
  | hsPoll => exact .inl (execHsPoll_tx h)
  | _ => cases h; exact .inl rfl

end Sys2Proof.Machine

namespace Sys2Proof.Proofs
open Sys2Proof.Machine

/-- Settles O50: an instruction emits nothing or the frame of a payload that ENCODE can frame, whose first byte is the id. -/
theorem txGrowsByWholeFrames : Obligations.TxGrowsByWholeFrames := by
  intro i s t h
  refine (exec_tx h).imp_right fun ⟨id, p, he, hi⟩ => ⟨p, he.tx, he.length_pos, he.length_le, ?_⟩
  rw [he.headD_eq]
  exact hi

end Sys2Proof.Proofs
end

section
/-! The encoder and the decoder (spec/30_encoding.md R94, R96, R99): each format's rows read back what the encoder wrote, O54,
and answer no ill-formed instruction, O55; some transactions written out, O56. -/

namespace Sys2Proof

variable {bs body : List Byte} {ck : Byte} {i : Instr}

/-! ### What the encoder writes, the decoder reads -/

/-- The 16-bit FIELD rows read the two bytes of a value as that value (R52). -/
theorem twoBytes_bytes (mk : Half → Instr) (v : Half) :
    twoBytes mk [Machine.lowByte v, Machine.highByte v] = .ok (mk v) := by
  rw [twoBytes, Machine.le16_bytes]

/-- The bytes of a Control frame with the 24 bytes of R86 after the id are those of its row. -/
theorem decodeFrame_control (h : body.length = 24) :
    decodeFrame (frameBytes Config.controlLen Config.idControl body ck) = .ok (.frameControl body ck) := by
  simp [decodeFrame, frameBytes, Config.controlLen, Config.idControl, Config.idHandshake, h]

/-- A telemetry frame's row takes any LEN byte and any payload (R91). -/
theorem decodeFrame_telemetry (len : Byte) :
    decodeFrame (frameBytes len Config.idTelemetry body ck) = .ok (.frameTelemetry len body ck) := by
  simp [decodeFrame, frameBytes, Config.idTelemetry, Config.idControl, Config.idHandshake]

/-- Decoding the encoding of a well-formed instruction gives it back. -/
theorem decode_encode (h : i.wellFormed = true) : decode (encode i) = .ok i := by
  cases i with
  | frameControl body ck => exact decodeFrame_control (by simpa [Instr.wellFormed] using h)
  | frameTelemetry len body ck => exact decodeFrame_telemetry len
  | idleSkip b =>
    have hb : b ≠ Config.magic0 := by simpa [Instr.wellFormed] using h
    exact if_neg hb
  | syncMiss b =>
    have hb : b ≠ Config.magic1 := by simpa [Instr.wellFormed] using h
    exact if_neg hb
  | ctlGroup1 f | ctlGroup2 f | ctlGroup3 f | ctlGroup4 f | ctlGroup5 f | ctlGroup6 f | ctlGroup7 f | ctlGroup8 f
  | ctlGroup9 f | ctlGroup10 f | ctlGroupUnused f | ctlPitch f | ctlRoll f | ctlYaw f | ctlTx f | ctlTy f | ctlTz f
  | ctlWheelSteer f | ctlThrottle f | ctlWheelThrottle f => exact twoBytes_bytes _ f
  | _ => rfl

/-! ### What the decoder answers is well formed -/

/-- A reader of field bytes that answers only well-formed instructions. -/
def ReadsWellFormed (d : List Byte → Except DecodeError Instr) : Prop :=
  ∀ bs i, d bs = .ok i → i.wellFormed = true

theorem readsWellFormed_oneByte {mk : Byte → Instr} (h : ∀ f, (mk f).wellFormed = true) :
    ReadsWellFormed (oneByte mk) := by
  intro bs i hi
  unfold oneByte at hi
  split at hi <;> cases hi
  exact h _

theorem readsWellFormed_twoBytes {mk : Half → Instr} (h : ∀ f, (mk f).wellFormed = true) :
    ReadsWellFormed (twoBytes mk) := by
  intro bs i hi
  unfold twoBytes at hi
  split at hi <;> cases hi
  exact h _

theorem readsWellFormed_error (e : DecodeError) : ReadsWellFormed fun _ => .error e := nofun

/-- Every FIELD row reads one or two bytes into an instruction that no check excludes (R99). -/
theorem readsWellFormed_decodeField (kind : PayloadKind) (offset mask : Nat) :
    ReadsWellFormed (decodeField kind offset mask) := by
  unfold decodeField
  split
  case h_36 => exact readsWellFormed_error _
  case h_10 | h_11 | h_12 | h_13 | h_14 | h_15 | h_16 | h_17 | h_18 | h_19 | h_20 | h_24 | h_25 | h_26 | h_27 | h_28
    | h_29 | h_30 | h_31 | h_32 => exact readsWellFormed_twoBytes fun _ => rfl
  all_goals exact readsWellFormed_oneByte fun _ => rfl

/-- A FRAME row that answers a Control frame has counted its bytes (R86, R99). -/
theorem wellFormed_of_decodeFrame (h : decodeFrame bs = .ok i) : i.wellFormed = true := by
  unfold decodeFrame at h
  split at h
  · split_ifs at h with hmagic hhs hctl hlen
    · split at h <;> cases h
      rfl
    · cases h
      simp [Instr.wellFormed, hlen]
    · cases h
      rfl
  · cases h

/-- A skipping row that answers has excluded its neighbour's byte (R152, R154). -/
theorem wellFormed_of_decodeRxRow {st : RxState} {priority : Nat} {b : Byte} (h : decodeRxRow st priority b = .ok i) :
    i.wellFormed = true := by
  unfold decodeRxRow at h
  split at h
  case h_1 | h_2 | h_3 | h_4 =>
    split_ifs at h with hb
    cases h
    simp [Instr.wellFormed, hb]
  all_goals cases h <;> rfl

theorem wellFormed_of_decodeCmd {code : BitVec 4} {ports : CmdPorts} (h : decodeCmd code ports = .ok i) :
    i.wellFormed = true := by
  unfold decodeCmd at h
  split at h <;> cases h <;> rfl

/-- The decoder answers only well-formed instructions. -/
theorem wellFormed_of_decode {x : Transaction} (h : decode x = .ok i) : i.wellFormed = true := by
  cases x with
  | strobe b => cases h; rfl
  | frame bytes => exact wellFormed_of_decodeFrame h
  | rxRow st priority b => exact wellFormed_of_decodeRxRow h
  | field kind offset mask bytes => exact readsWellFormed_decodeField kind offset mask bytes i h
  | cmd code ports => exact wellFormed_of_decodeCmd h

end Sys2Proof

namespace Sys2Proof.Proofs

/-- Settles O54: format by format; the content is in the FRAME rows' byte counts, the skipping rows' excluded byte and the
two bytes of a 16-bit field. -/
theorem decodeOfEncodeIsSelf : Obligations.DecodeOfEncodeIsSelf :=
  fun _ => decode_encode

/-- Settles O55: each port's decoder makes the checks `Instr.wellFormed` asks for. -/
theorem decodedIsWellFormed : Obligations.DecodedIsWellFormed :=
  fun _ _ => wellFormed_of_decode

/-- Settles O56: each transaction is evaluated. -/
theorem tableWordsDecode : Obligations.TableWordsDecode :=
  ⟨rfl, rfl, rfl, rfl, rfl, rfl, rfl, rfl⟩

end Sys2Proof.Proofs
end

section
/-! The rows of one received byte (spec/30_encoding.md R94, spec/42_receiver.md R161): RXBYTE is total under the invariant, the
rows that can hold for a byte are one for each class that can, and the class of the byte selects one of them, O11. -/

namespace Sys2Proof.Machine

variable {s : State} {b : Byte}

/-! ### Totality -/

/-- A completed payload is dispatched: the invariant keeps out the cases R162 calls unreachable. -/
theorem exists_dispatch_of_registered {p : List Byte} (hp : RegisteredPayload p) (s : State) :
    ∃ t, dispatch p s = .next t := by
  rcases dispatch_of_registered hp with ⟨c, hd⟩ | ⟨m1, m2, m3, hd⟩ <;> exact ⟨_, hd s⟩

/-- Under the invariant a received byte is neither refused nor a fault (R161). -/
theorem Inv.exists_takeByte (hi : Inv s) (ho : s.linkClosed = false) (b : Byte) :
    ∃ t, Machine.takeByte b s = .next t := by
  cases hst : s.st with
  | idle => exact ⟨_, takeByte_idle ho hst⟩
  | sync => exact ⟨_, takeByte_sync ho hst⟩
  | length => exact ⟨_, takeByte_length ho hst⟩
  | payload =>
    by_cases hc : s.cnt = 0
    · exact ⟨_, takeByte_id ho hst hc⟩
    · exact ⟨_, takeByte_body ho hst hc (hi.cnt_lt_bufSize hst)⟩
  | check =>
    rw [takeByte_check ho hst]
    split
    · exact exists_dispatch_of_registered (hi.registeredPayload hst) _
    · exact ⟨_, rfl⟩

/-! ### The rows by class -/

/-- The row of a class (R94), for the byte `b`. -/
def rowOf (c : RxClass) (b : Byte) : Instr :=
  match c with
  | .idleBe => .idleBe
  | .idleSkip => .idleSkip b
  | .syncEf => .syncEf
  | .syncMiss => .syncMiss b
  | .lengthAny => .lengthAny b
  | .payloadIdOk => .payloadIdOk b
  | .payloadIdRej => .payloadIdRej b
  | .payloadBody => .payloadBody b
  | .checkOk => .checkOk b
  | .checkFail => .checkFail b

/-- The classes that can hold the byte `b`, two of the four magic classes being excluded by its value (R94). -/
def classesOf (b : Byte) : List RxClass :=
  [if b = Config.magic0 then .idleBe else .idleSkip, if b = Config.magic1 then .syncEf else .syncMiss,
    .lengthAny, .payloadIdOk, .payloadIdRej, .payloadBody, .checkOk, .checkFail]

/-- The rows that can hold for `b` are those of the classes that can. -/
theorem rowsOf_eq_map (b : Byte) : rowsOf b = (classesOf b).map fun c => rowOf c b := by
  unfold rowsOf classesOf
  split_ifs <;> rfl

theorem mem_rowsOf {i : Instr} : i ∈ rowsOf b ↔ ∃ c ∈ classesOf b, rowOf c b = i := by
  simp [rowsOf_eq_map]

/-- The class of a byte is one that can hold it. -/
theorem classify_mem_classesOf (s : State) (b : Byte) : classify s b ∈ classesOf b := by
  unfold classify
  cases s.st with
  | idle | sync | length => simp [classesOf]
  | payload => split_ifs <;> simp [classesOf]
  | check => split_ifs <;> simp [classesOf]

theorem idleBe_mem_classesOf : .idleBe ∈ classesOf b ↔ b = Config.magic0 := by
  unfold classesOf
  split_ifs with h0 h1 h1 <;> simp [h0]

theorem syncEf_mem_classesOf : .syncEf ∈ classesOf b ↔ b = Config.magic1 := by
  unfold classesOf
  split_ifs with h0 h1 h1 <;> simp [h1]

/-- A row run by name on a byte its class can hold is that class's rule, where the class is the byte's (log 14). -/
theorem exec_rowOf {c : RxClass} (hc : c ∈ classesOf b) (s : State) :
    exec (rowOf c b) s = takeRow c b (applyRule c b s) s := by
  cases c with
  | idleBe =>
    obtain rfl := idleBe_mem_classesOf.1 hc
    rfl
  | syncEf =>
    obtain rfl := syncEf_mem_classesOf.1 hc
    rfl
  | _ => rfl

/-- The selected row is RXBYTE (R161). -/
theorem exec_rowOf_classify (s : State) (b : Byte) : exec (rowOf (classify s b) b) s = takeByte b s := by
  rw [exec_rowOf (classify_mem_classesOf s b), takeRow_of_selected rfl]

end Sys2Proof.Machine

namespace Sys2Proof.Proofs
open Sys2Proof.Machine

/-- Settles O11: the row selected is that of the byte's class. -/
theorem exactlyOneRowSelected : Obligations.ExactlyOneRowSelected := by
  intro s b hi ho
  have hrow := exec_rowOf_classify s b
  refine ⟨rowOf (classify s b) b, mem_rowsOf.2 ⟨_, classify_mem_classesOf s b, rfl⟩, ?_, hrow.symm, ?_⟩
  · rw [hrow]
    exact hi.exists_takeByte ho b
  · intro j hj hne
    obtain ⟨c, hmem, rfl⟩ := mem_rowsOf.1 hj
    have hc : classify s b ≠ c := fun h => hne (h ▸ rfl)
    rw [exec_rowOf hmem, takeRow_of_not_selected ho hc]

end Sys2Proof.Proofs
end

section
/-! A whole frame with a registered id (spec/40_frame_codec.md, spec/30_encoding.md R80): from IDLE its header and payload are
collected byte by byte, and its checksum byte completes or rejects it. FRAME.CONTROL, O15, and FRAME.HANDSHAKE, O16. -/

namespace Sys2Proof.Machine

variable {s t : State} {len id b ck : Byte} {p body : List Byte} {v : Buffer}

/-! ### Collecting a payload -/

/-- The buffer holds the bytes `p` from index 0 on (R24). -/
def Holds (v : Buffer) (p : List Byte) : Prop := ∀ i < p.length, v[i]? = p[i]?

/-- One more byte is stored behind those the buffer holds (R158). -/
theorem Holds.snoc (h : Holds v p) (hn : p.length < Config.bufSize) : Holds (v.set p.length b hn) (p ++ [b]) := by
  intro i hi
  by_cases hip : i = p.length
  · subst hip
    rw [Vector.getElem?_set_self, List.getElem?_concat_length]
  · have hlt : i < p.length := by
      rw [List.length_append, List.length_singleton] at hi
      omega
    rw [Vector.getElem?_set_ne _ (Ne.symm hip), List.getElem?_append_left hlt]
    exact h i hlt

/-- `s` with the first bytes `p` of a payload of `len` bytes collected into the buffer `v` (R156, R158). -/
def collected (s : State) (len : Byte) (p : List Byte) (v : Buffer) : State :=
  { s with
    st := if p.length = len.toNat then .check else .payload
    rxLen := len, cnt := p.length, buf := v, ev := .none }

/-- A payload is complete when `len` bytes of it are collected (R159). -/
theorem payloadOf_collected (h : Holds v p) (hlen : p.length = len.toNat) : payloadOf (collected s len p v) = p := by
  apply List.ext_getElem?
  intro i
  by_cases hi : i < len.toNat
  · rw [getElem?_payloadOf _ hi]
    exact h i (hlen ▸ hi)
  · rw [List.getElem?_eq_none (by rw [length_payloadOf]; exact Nat.le_of_not_lt hi),
      List.getElem?_eq_none (by omega)]

/-- A byte that raises no event adds nothing to the slice's result (R163). -/
theorem takeBytes_cons_of_quiet {bs : List Byte} (h : takeByte b s = .next t) (he : t.ev = .none) :
    takeBytes (b :: bs) s = takeBytes bs t := by
  have hn : noteSliceEvent t = t := by
    unfold noteSliceEvent
    rw [he, toList_none, List.append_nil, ← he]
  rw [takeBytes_cons, h, andThen_next, hn]

/-- From IDLE the magic bytes and the LEN byte lead to the id byte (R151, R153, R155). -/
theorem takeBytes_header (ho : s.linkClosed = false) (hst : s.st = .idle) (len : Byte) (bs : List Byte) :
    takeBytes (Config.magic0 :: Config.magic1 :: len :: bs) s =
      takeBytes bs { s with st := .payload, rxLen := len, cnt := 0, ev := .none } := by
  have hidle : takeByte Config.magic0 s = .next { s with st := .sync, ev := .none } := takeByte_idle ho hst
  have hsync : takeByte Config.magic1 { s with st := .sync, ev := .none } = .next { s with st := .length, ev := .none } :=
    takeByte_sync ho rfl
  have hlength : takeByte len { s with st := .length, ev := .none } =
      .next { s with st := .payload, rxLen := len, cnt := 0, ev := .none } := takeByte_length ho rfl
  rw [takeBytes_cons_of_quiet hidle rfl, takeBytes_cons_of_quiet hsync rfl, takeBytes_cons_of_quiet hlength rfl]

/-- The id byte with the registered length opens the payload (R156). -/
theorem takeByte_registeredId (ho : s.linkClosed = false) (hid : expectedLen id = len) (hne : len ≠ 0) :
    takeByte id { s with st := .payload, rxLen := len, cnt := 0, ev := .none } =
      .next (collected s len [id] (s.buf.set 0 id)) := by
  have hone : len = 1 ↔ [id].length = len.toNat := by
    simp [← BitVec.toNat_inj, eq_comm]
  have hacc := idAccepted_iff (s := { s with st := .payload, rxLen := len, cnt := 0, ev := .none }).2 ⟨hid ▸ hne, hid⟩
  rw [takeByte_id (by exact ho) rfl rfl, if_pos hacc]
  simp only [collected, hone]
  rfl

/-- A further byte of the payload (R158). -/
theorem takeByte_collected (ho : s.linkClosed = false) (hp : p ≠ []) (hlt : p.length < len.toNat)
    (hn : p.length < Config.bufSize) :
    takeByte b (collected s len p v) = .next (collected s len (p ++ [b]) (v.set p.length b hn)) := by
  have hst : (collected s len p v).st = .payload := if_neg (Nat.ne_of_lt hlt)
  have hcnt : (collected s len p v).cnt ≠ 0 := fun h => hp (List.length_eq_zero_iff.1 h)
  rw [takeByte_body (by exact ho) hst hcnt hn]
  simp only [collected, List.length_append, List.length_singleton]
  rfl

/-- The checksum byte of a completed payload (R159, R160). -/
theorem takeByte_collected_complete (ho : s.linkClosed = false) (hv : Holds v p) (hlen : p.length = len.toNat) :
    takeByte b (collected s len p v) = if b = cksum len p
      then dispatch p (raise (.frame (memRead1 p 0) p) (forgetFrame { collected s len p v with st := .idle }))
      else .next (reject (.rejCksum (memRead1 p 0) (cksum len p) b) (discardBuf (collected s len p v))) := by
  have hst : (collected s len p v).st = .check := if_pos hlen
  rw [takeByte_check (by exact ho) hst, payloadOf_collected hv hlen]
  rfl

/-- The bytes of the payload after the id, one after the other (R158). -/
theorem takeBytes_collected {bs : List Byte} (ho : s.linkClosed = false) (hp : p ≠ [])
    (hlen : p.length + body.length ≤ len.toNat) (hv : Holds v p) :
    ∃ w, Holds w (p ++ body) ∧
      takeBytes (body ++ bs) (collected s len p v) = takeBytes bs (collected s len (p ++ body) w) := by
  induction body generalizing p v with
  | nil => exact ⟨v, by simpa using hv, by simp⟩
  | cons b body ih =>
    rw [List.length_cons] at hlen
    have hlt : p.length < len.toNat := by omega
    have hn : p.length < Config.bufSize := by
      have := len.isLt
      simp only [Config.bufSize]
      omega
    obtain ⟨w, hw, ht⟩ := ih (p := p ++ [b]) (by simp) (by simp; omega) (hv.snoc hn)
    rw [List.append_cons]
    exact ⟨w, hw, (takeBytes_cons_of_quiet (takeByte_collected ho hp hlt hn) rfl).trans ht⟩

/-! ### The frame -/

/-- From IDLE a frame's bytes up to its checksum byte leave its payload collected (R80). -/
theorem deliver_frameBytes (ho : s.linkClosed = false) (hst : s.st = .idle) (hid : expectedLen id = len)
    (hlen : (id :: body).length = len.toNat) :
    ∃ v, Holds v (id :: body) ∧ deliver (frameBytes len id body ck) s =
      takeBytes [ck] (collected { s with sliceOut := [] } len (id :: body) v) := by
  have hne : len ≠ 0 := by
    rintro rfl
    simp at hlen
  have hheld : Holds (s.buf.set 0 id) [id] := Holds.snoc (p := []) nofun (by decide)
  obtain ⟨v, hv, ht⟩ := takeBytes_collected (s := { s with sliceOut := [] }) (len := len) (body := body) (bs := [ck]) ho
    (List.cons_ne_nil id []) (by rw [← hlen]; simp; omega) hheld
  refine ⟨v, hv, Eq.trans ?_ ht⟩
  have hheader := takeBytes_header (s := { s with ev := .none, sliceOut := [] }) ho hst len (id :: (body ++ [ck]))
  exact hheader.trans (takeBytes_cons_of_quiet (takeByte_registeredId (s := { s with sliceOut := [] }) ho hid hne) rfl)

/-- A wrong checksum byte raises REJ_CKSUM and nothing else (R160, R265). -/
theorem deliver_frameBytes_of_cksum_ne (ho : s.linkClosed = false) (hst : s.st = .idle) (hid : expectedLen id = len)
    (hlen : (id :: body).length = len.toNat) (hck : ck ≠ cksum len (id :: body)) :
    ∃ t, deliver (frameBytes len id body ck) s = .next t ∧ t = { s with
      ev := .rejCksum id (cksum len (id :: body)) ck
      events := s.events ++ [.rejCksum id (cksum len (id :: body)) ck]
      sliceOut := [.rejCksum id (cksum len (id :: body)) ck]
      rxLen := t.rxLen, cnt := t.cnt, buf := t.buf, free := t.free } := by
  obtain ⟨v, hv, ht⟩ := deliver_frameBytes (ck := ck) ho hst hid hlen
  rw [ht, takeBytes_cons, takeByte_collected_complete (by exact ho) hv hlen, if_neg hck]
  refine ⟨_, rfl, ?_⟩
  rw [hst]
  rfl

/-- The right checksum byte raises FRAME and runs the mux on the payload (R159). -/
theorem deliver_frameBytes_of_cksum_eq (ho : s.linkClosed = false) (hst : s.st = .idle) (hid : expectedLen id = len)
    (hlen : (id :: body).length = len.toNat) (hck : ck = cksum len (id :: body)) :
    ∃ l n v f, deliver (frameBytes len id body ck) s = andThen (dispatch (id :: body) { s with
      ev := .frame id (id :: body)
      events := s.events ++ [.frame id (id :: body)]
      sliceOut := []
      rxLen := l, cnt := n, buf := v, free := f }) fun t => .next (noteSliceEvent t) := by
  obtain ⟨v, hv, ht⟩ := deliver_frameBytes (ck := ck) ho hst hid hlen
  rw [ht, takeBytes_cons, takeByte_collected_complete (by exact ho) hv hlen, if_pos hck, ← hst]
  exact ⟨_, _, _, _, rfl⟩

/-- A completed Control payload replaces `ctl.cur` (R162, R220). -/
theorem dispatch_control (h : body.length = 24) (s : State) :
    ∃ c, ctlDecode (101 :: body) = some c ∧ dispatch (101 :: body) s = .next { s with cur := c, ctlValid := true } := by
  have hd : ctlDecode (101 :: body) = some (ctlRecord (101 :: body)) :=
    if_pos ⟨congrArg (· + 1) h, rfl⟩
  have hid : (101 : Byte) = Config.idControl := rfl
  refine ⟨_, hd, ?_⟩
  simp only [dispatch, if_pos hid, hd]

/-- A completed Handshake payload resolves an awaited handshake (R162, R193, R194). -/
theorem dispatch_handshake (m1 m2 m3 : Byte) (s : State) : dispatch [0, m1, m2, m3] s =
    .next { s with hs := if s.hs = .awaitingReply then replyOutcome m1 m2 m3 else s.hs } := by
  have hid : (0 : Byte) = Config.idHandshake := rfl
  rw [dispatch, if_neg (by decide), if_pos hid]
  simp only [Host.Outcome.next.injEq]
  split <;> rfl

end Sys2Proof.Machine

namespace Sys2Proof.Proofs
open Sys2Proof.Machine

/-- Settles O15: the frame's checksum byte decides between R159 with the Control decoder and R160. -/
theorem controlFrameDelivered : Obligations.ControlFrameDelivered := by
  intro s body ck
  have hlen (h : body.length = 24) : (101 :: body).length = (25 : Byte).toNat := by simp [h]
  refine ⟨rfl, fun ho hst hbody hck => ?_, fun ho hst hbody hck => ?_⟩
  · obtain ⟨l, n, v, f, ht⟩ := deliver_frameBytes_of_cksum_eq ho hst rfl (hlen hbody) hck
    obtain ⟨c, hc, hd⟩ := dispatch_control hbody _
    exact ⟨_, c, ht.trans (by rw [hd, andThen_next]), hc, rfl⟩
  · exact deliver_frameBytes_of_cksum_ne ho hst rfl (hlen hbody) hck

/-- Settles O16: the frame's checksum byte decides between R159 with the reply check and R160. -/
theorem handshakeFrameDelivered : Obligations.HandshakeFrameDelivered := by
  intro s m1 m2 m3 ck
  refine ⟨rfl, fun ho hst hck => ?_, fun ho hst hck => ?_⟩
  · obtain ⟨l, n, v, f, ht⟩ := deliver_frameBytes_of_cksum_eq (len := 4) ho hst rfl rfl hck
    exact ⟨_, ht.trans (by rw [dispatch_handshake, andThen_next]), rfl⟩
  · exact deliver_frameBytes_of_cksum_ne ho hst rfl rfl hck

end Sys2Proof.Proofs
end

section
/-! A slice delivered after other bytes (spec/42_receiver.md R163): no byte looks at the event output or at the slice's result, so
the slice's bytes do the same whatever these hold. FRAME.TELEMETRY, rejected at its id byte, O17. -/

namespace Sys2Proof.Machine

variable {s t u : State} {b : Byte} {bs : List Byte} {p : List Byte}

/-- `s` with another event output and another slice result (R30, R163). -/
def State.withSlice (s : State) (e : Event) (l : List Event) : State := { s with ev := e, sliceOut := l }

/-- The mux reads neither the event output nor the slice's result. -/
theorem dispatch_withSlice (e : Event) (l : List Event) (h : dispatch p s = .next t) :
    dispatch p (s.withSlice e l) = .next (t.withSlice e l) := by
  unfold dispatch at h ⊢
  split at h
  · cases h
  next id body =>
    by_cases hc : id = Config.idControl
    · simp only [if_pos hc] at h ⊢
      split at h <;> cases h
      rfl
    by_cases hh : id = Config.idHandshake
    · simp only [if_neg hc, if_pos hh] at h ⊢
      split at h <;> cases h
      by_cases ha : s.hs = .awaitingReply <;> simp [ha, State.withSlice, handshakeReply]
    by_cases ht : id = Config.idTelemetry
    · simp only [if_neg hc, if_neg hh, if_pos ht] at h ⊢
      cases h
      rfl
    · simp [hc, hh, ht] at h

/-- Each rule raises an event of its own and leaves the slice's result (R151 to R160). -/
theorem applyRule_withSlice {c : RxClass} (e : Event) (l : List Event) (h : applyRule c b s = .next t) :
    applyRule c b (s.withSlice e l) = .next (t.withSlice t.ev l) := by
  cases c with
  | idleBe | idleSkip | syncEf | syncMiss | lengthAny | payloadIdRej | checkFail => cases h; rfl
  | payloadIdOk | payloadBody =>
    simp only [applyRule, rulePayloadIdOk, rulePayloadBody] at h ⊢
    obtain ⟨hn, rfl⟩ := bufStore_eq_next.1 h
    exact bufStore_eq_next.2 ⟨hn, rfl⟩
  | checkOk =>
    obtain ⟨hev, -⟩ := dispatch_events h
    rw [hev]
    exact dispatch_withSlice _ l h

theorem takeByte_withSlice (e : Event) (l : List Event) (h : takeByte b s = .next t) :
    takeByte b (s.withSlice e l) = .next (t.withSlice t.ev l) := by
  obtain ⟨ho, hr⟩ := takeByte_eq_next.1 h
  exact takeByte_eq_next.2 ⟨ho, applyRule_withSlice e l hr⟩

/-- One byte writes the slice's result only through `noteSliceEvent`. -/
theorem takeByte_sliceOut (h : takeByte b s = .next t) : t.sliceOut = s.sliceOut := by
  have h' : takeByte b s = .next (t.withSlice t.ev s.sliceOut) := takeByte_withSlice s.ev s.sliceOut h
  rw [h] at h'
  injection h' with ht
  rw [ht]
  rfl

/-- Bytes delivered behind a result `l` append to it what they append to any other (R163). -/
theorem takeBytes_withSlice (e : Event) (l : List Event) (h : takeBytes bs s = .next u) :
    takeBytes bs (s.withSlice e (l ++ s.sliceOut)) =
      .next (u.withSlice (if bs = [] then e else u.ev) (l ++ u.sliceOut)) := by
  induction bs generalizing s e with
  | nil => cases h; rfl
  | cons b bs ih =>
    obtain ⟨t, ht, h⟩ := andThen_eq_next.1 h
    have hnote : noteSliceEvent (t.withSlice t.ev (l ++ s.sliceOut)) =
        (noteSliceEvent t).withSlice t.ev (l ++ (noteSliceEvent t).sliceOut) := by
      simp [noteSliceEvent, State.withSlice, takeByte_sliceOut ht]
    have hlast : (if bs = [] then t.ev else u.ev) = u.ev := by
      split
      · subst bs; cases h; rfl
      · rfl
    rw [takeBytes_cons, takeByte_withSlice e _ ht, andThen_next, hnote, ih t.ev h, hlast, if_neg (List.cons_ne_nil b bs)]

/-- Bytes taken in `s` do what RXSLICE of them does in `s`, behind the result so far. -/
theorem takeBytes_of_deliver (h : deliver bs s = .next u) :
    takeBytes bs s = .next (u.withSlice (if bs = [] then s.ev else u.ev) (s.sliceOut ++ u.sliceOut)) := by
  have := takeBytes_withSlice s.ev s.sliceOut h
  simpa [State.withSlice] using this

/-- Cutting a slice gives the same state, with the two results put together (R163). -/
theorem deliver_append {cs : List Byte} (ht : deliver bs s = .next t) (hu : deliver cs t = .next u) :
    deliver (bs ++ cs) s = .next (u.withSlice (if cs = [] then t.ev else u.ev) (t.sliceOut ++ u.sliceOut)) := by
  unfold deliver at ht ⊢
  rw [takeBytes_append, ht, andThen_next, takeBytes_of_deliver hu]

/-- Under the invariant with the link open, bytes are neither refused nor a fault (R161, R163). -/
theorem Inv.exists_takeBytes (hi : Inv s) (ho : s.linkClosed = false) (bs : List Byte) :
    ∃ t, Machine.takeBytes bs s = .next t := by
  induction bs generalizing s with
  | nil => exact ⟨s, rfl⟩
  | cons b bs ih =>
    obtain ⟨t, ht⟩ := hi.exists_takeByte ho b
    have hn : Inv (noteSliceEvent t) := { hi.takeByte ht with }
    rw [takeBytes_cons, ht, andThen_next]
    exact ih hn ((takeByte_linkClosed ht).trans ho)

theorem Inv.exists_deliver (hi : Inv s) (ho : s.linkClosed = false) (bs : List Byte) :
    ∃ t, Machine.deliver bs s = .next t :=
  Inv.exists_takeBytes (s := { s with ev := .none, sliceOut := [] }) { hi with } ho bs

/-- From IDLE a frame with an id that is not registered is rejected at its id byte (R157, R264). -/
theorem deliver_unregistered (ho : s.linkClosed = false) (hst : s.st = .idle) (len : Byte) {id : Byte}
    (hid : expectedLen id = 0) :
    deliver [Config.magic0, Config.magic1, len, id] s = .next { s with
      rxLen := len, cnt := 0
      ev := .rejSize id len 0
      events := s.events ++ [.rejSize id len 0]
      sliceOut := [.rejSize id len 0] } := by
  have hheader := takeBytes_header (s := { s with ev := .none, sliceOut := [] }) ho hst len [id]
  have hrej : idAccepted { s with st := .payload, rxLen := len, cnt := 0, ev := .none, sliceOut := [] } id ≠ true :=
    fun h => (idAccepted_iff.1 h).1 hid
  rw [deliver, hheader, takeBytes_cons, takeByte_id (by exact ho) rfl rfl, if_neg hrej, hid, hst]
  rfl

end Sys2Proof.Machine

namespace Sys2Proof.Proofs
open Sys2Proof.Machine

/-- Settles O17: the bytes after the id are taken in the state the reject leaves, as RXSLICE takes them. -/
theorem telemetryFrameRejectedAtId : Obligations.TelemetryFrameRejectedAtId := by
  intro s len body ck
  refine ⟨rfl, fun hi ho hst => ?_⟩
  have ht := deliver_unregistered (id := 1) ho hst len rfl
  obtain ⟨u, hu⟩ := (hi.deliver ht).exists_deliver ho (body ++ [ck])
  have hv := deliver_append ht hu
  rw [if_neg (by simp)] at hv
  exact ⟨_, u, _, hv, ht, rfl, hu, rfl⟩

end Sys2Proof.Proofs
end

section
/-! The frame codec (spec/40_frame_codec.md R120 to R124): EXPECTED_LEN, O32; ENCODE by its causes, O33, and the frame it emits,
O34; that frame back through the receiver, O35. -/

namespace Sys2Proof.Machine

variable {s : State} {len id : Byte} {p body : List Byte} {v : Buffer} {c : EncCause}

/-! ### The encoder by its causes -/

/-- ENCODE always completes (R120). -/
theorem exec_encodeFrame (id : Byte) (p : List Byte) (s : State) :
    exec (.encodeFrame id p) s = .next (encodeStep id p s) := rfl

theorem encodeFailure_of_length_gt (h : p.length > 255) : encodeFailure id p = some .lenOverflow := if_pos h

theorem encodeFailure_nil (id : Byte) : encodeFailure id [] = some .emptyPayload := rfl

theorem encodeFailure_of_head_ne (hlen : ¬ p.length > 255) (hne : p.length ≠ 0) (hid : p.head? ≠ some id) :
    encodeFailure id p = some .idMismatch := by
  cases p with
  | nil => exact absurd rfl hne
  | cons b p =>
    have hb : b ≠ id := fun h => hid (congrArg some h)
    exact (if_neg hlen).trans (if_neg hb)

/-- With a cause ENCODE raises ENC_FAIL and emits nothing (R120, R269). -/
theorem encodeStep_of_failure (h : encodeFailure id p = some c) :
    encodeStep id p s = { s with ev := .encFail c, events := s.events ++ [.encFail c] } := by
  rw [encodeStep, h]
  rfl

/-- Without one it emits the frame (R120). -/
theorem encodeStep_of_framed (hlen : p.length ≤ 255) (hid : p.head? = some id) :
    encodeStep id p s = { s with tx := s.tx ++ frameOf p, ev := .none } := by
  rw [encodeStep, encodeFailure_eq_none.2 ⟨hlen, hid⟩]
  exact raise_none _

/-! ### The frame's bytes -/

/-- Behind the magic and LEN stand the payload and its checksum (R80). -/
theorem getElem?_frameOf_add_three (p : List Byte) (i : Nat) :
    (frameOf p)[i + 3]? = (p ++ [cksum (BitVec.ofNat 8 p.length) p])[i]? := rfl

/-- Byte `3 + i` of a frame is byte `i` of its payload (R123). -/
theorem getElem?_frameOf_payload {i : Nat} (h : i < p.length) : (frameOf p)[3 + i]? = p[i]? := by
  rw [Nat.add_comm, getElem?_frameOf_add_three, List.getElem?_append_left h]

/-- The last byte of a frame is its checksum (R123). -/
theorem getElem?_frameOf_cksum (p : List Byte) :
    (frameOf p)[p.length + 3]? = some (cksum (BitVec.ofNat 8 p.length) p) := by
  rw [getElem?_frameOf_add_three, List.getElem?_concat_length]

/-- LEN, the payload and its checksum fold to 0 (R123, R143). -/
theorem cksum_frameOf_drop_two (p : List Byte) : cksum 0 ((frameOf p).drop 2) = 0 := by
  have hdrop : (frameOf p).drop 2 = BitVec.ofNat 8 p.length :: (p ++ [cksum (BitVec.ofNat 8 p.length) p]) := rfl
  rw [hdrop, cksum_cons, cksum_append]
  simp

/-- The bytes of a frame up to its checksum: magic, LEN and the payload (R80). -/
theorem take_frameOf (p : List Byte) : (frameOf p).take (p.length + 3) =
    Config.magic0 :: Config.magic1 :: BitVec.ofNat 8 p.length :: p := by
  simp [frameOf]

theorem drop_frameOf (p : List Byte) : (frameOf p).drop (p.length + 3) = [cksum (BitVec.ofNat 8 p.length) p] := by
  simp [frameOf]

/-! ### The frame in two slices -/

/-- From IDLE the bytes before the checksum leave the payload collected and raise no event (R151, R153, R155, R156, R158). -/
theorem deliver_header_payload (ho : s.linkClosed = false) (hst : s.st = .idle) (hid : expectedLen id = len)
    (hne : len ≠ 0) (hlen : (id :: body).length = len.toNat) :
    ∃ v, Holds v (id :: body) ∧ deliver (Config.magic0 :: Config.magic1 :: len :: id :: body) s =
      .next (collected { s with sliceOut := [] } len (id :: body) v) := by
  have hheader := takeBytes_header (s := { s with ev := .none, sliceOut := [] }) ho hst len (id :: body)
  have hfirst := takeBytes_cons_of_quiet (bs := body)
    (takeByte_registeredId (s := { s with sliceOut := [] }) ho hid hne) rfl
  have hheld : Holds (s.buf.set 0 id) [id] := Holds.snoc (p := []) nofun (by decide)
  obtain ⟨v, hv, ht⟩ := takeBytes_collected (s := { s with sliceOut := [] }) (body := body) (bs := []) ho
    (List.cons_ne_nil id []) (by rw [← hlen]; simp; omega) hheld
  rw [List.append_nil] at ht
  exact ⟨v, hv, hheader.trans (hfirst.trans ht)⟩

/-- The checksum byte of a collected registered payload yields its FRAME alone and leaves the receiver in IDLE (R159). -/
theorem deliver_cksum_collected (ho : s.linkClosed = false) (hp : RegisteredPayload p) (hv : Holds v p)
    (hlen : p.length = len.toNat) :
    ∃ t, deliver [cksum len p] (collected s len p v) = .next t ∧
      t.sliceOut = [.frame (memRead1 p 0) p] ∧ t.st = .idle := by
  obtain ⟨t, hd⟩ := exists_dispatch_of_registered hp
    (raise (.frame (memRead1 p 0) p) (forgetFrame { collected { s with sliceOut := [] } len p v with st := .idle }))
  have ht := (takeByte_collected_complete (s := { s with sliceOut := [] }) ho hv hlen).trans ((if_pos rfl).trans hd)
  obtain ⟨hev, -⟩ := dispatch_events hd
  obtain ⟨hst, -⟩ := dispatch_receiver hd
  have hslice : t.sliceOut = [] := takeByte_sliceOut ht
  have hdeliver : deliver [cksum len p] (collected s len p v) = .next (noteSliceEvent t) :=
    congrArg (andThen · fun t => takeBytes [] (noteSliceEvent t)) ht
  refine ⟨noteSliceEvent t, hdeliver, ?_, hst⟩
  rw [noteSliceEvent_sliceOut, hslice, hev]
  rfl

end Sys2Proof.Machine

namespace Sys2Proof.Proofs
open Sys2Proof.Machine

/-- Settles O35: the encoder's frame is the header and payload, which are collected, and the checksum byte, which completes it. -/
theorem registeredPayloadRoundTrips : Obligations.RegisteredPayloadRoundTrips := by
  intro s id p ho hst hne hlen hid
  have hle : p.length ≤ 255 := hlen ▸ Nat.le_of_lt_succ (expectedLen id).isLt
  have hbyte : BitVec.ofNat 8 p.length = expectedLen id := by rw [hlen, BitVec.ofNat_toNat, BitVec.setWidth_eq]
  obtain ⟨body, rfl⟩ := List.head?_eq_some_iff.1 hid
  obtain ⟨v, hv, hu⟩ := deliver_header_payload (s := { s with tx := s.tx ++ frameOf (id :: body), ev := .none })
    ho hst rfl hne hlen
  obtain ⟨t, ht, hslice, hidle⟩ := deliver_cksum_collected
    (s := { s with tx := s.tx ++ frameOf (id :: body), ev := .none, sliceOut := [] })
    ho ⟨id, body, rfl, hne, hlen⟩ hv hlen
  rw [← hbyte, ← take_frameOf] at hu
  rw [← hbyte, ← drop_frameOf] at ht
  have hencode : exec (.encodeFrame id (id :: body)) s =
      .next { s with tx := s.tx ++ frameOf (id :: body), ev := .none } := by
    rw [exec_encodeFrame, encodeStep_of_framed hle hid]
  exact ⟨_, frameOf (id :: body), _, t, hencode, rfl, length_frameOf _, hu, rfl, ht, hslice, hidle⟩

/-- Settles O34: without ENC_FAIL what ENCODE appends is `frameOf p`. -/
theorem encodedFrameLengthLaw : Obligations.EncodedFrameLengthLaw := by
  intro s t id p h hev
  rw [exec_encodeFrame] at h
  cases h
  rcases encodeStep_cases id p s with ⟨c, -, ht⟩ | ⟨-, ht⟩ <;> rw [ht] at hev ⊢
  · cases hev
  · exact ⟨frameOf p, rfl, length_frameOf p, rfl, rfl, rfl, fun _ => getElem?_frameOf_payload, getElem?_frameOf_cksum p,
      cksum_frameOf_drop_two p⟩

/-- Settles O32: under the decided registry id 1 is not registered either (R83, log 11). -/
theorem expectedLenReturnsRegistry : Obligations.ExpectedLenReturnsRegistry := by
  intro s id
  have hlen : expectedLen id = if id = 0 then 4 else if id = 101 then 25 else 0 := by
    simp [expectedLen, expectedLenWith, Config.rxTelemetryRegistered, Config.idHandshake, Config.idControl,
      Config.handshakeLen, Config.controlLen]
  rw [← hlen, exec, execExpectedLen, raise_none]

/-- Settles O33: the three causes of R120 in its order, and the frame where none holds. -/
theorem encodeEmitsFrameOrFails : Obligations.EncodeEmitsFrameOrFails := by
  intro s id p fails
  rw [exec_encodeFrame]
  by_cases hlong : p.length > 255
  · rw [if_pos hlong, encodeStep_of_failure (encodeFailure_of_length_gt hlong)]
  by_cases hempty : p.length = 0
  · rw [if_neg hlong, if_pos hempty, List.length_eq_zero_iff.1 hempty, encodeStep_of_failure (encodeFailure_nil id)]
  by_cases hid : p.head? = some id
  · rw [if_neg hlong, if_neg hempty, if_neg (not_not.2 hid), encodeStep_of_framed (Nat.le_of_not_gt hlong) hid]
    rfl
  · rw [if_neg hlong, if_neg hempty, if_pos hid, encodeStep_of_failure (encodeFailure_of_head_ne hlong hempty hid)]

end Sys2Proof.Proofs
end

section
/-! The checksum (spec/41_checksum.md R140 to R144): CKSUM, O28; the order of its fold, O29; the zero law, O30; what one
flipped bit does to it, O31. -/

namespace Sys2Proof.Machine

variable {i : Nat} {p q : List Byte}

/-- Exclusive-or into the start passes through the fold (R142). -/
theorem cksum_xor (len m : Byte) (p : List Byte) : cksum (len ^^^ m) p = cksum len p ^^^ m := by
  rw [cksum_start, cksum_start len, BitVec.xor_assoc, BitVec.xor_assoc, BitVec.xor_comm m]

/-- A permuted payload has the same checksum (R142). -/
theorem cksum_perm (len : Byte) (h : p.Perm q) : cksum len p = cksum len q := h.foldl_eq len

/-- Folding from the other end gives the same byte (R142). -/
theorem cksum_eq_foldr (len : Byte) (p : List Byte) : cksum len p = p.foldr (· ^^^ ·) len := List.foldl_eq_foldr

/-- Started from 0, the fold takes LEN as its first byte (R143). -/
theorem cksum_zero_cons (len : Byte) (p : List Byte) : cksum 0 (len :: p) = cksum len p :=
  congrArg (cksum · p) BitVec.zero_xor

/-- With a trailing byte the fold is 0 exactly where that byte is the checksum (R143). -/
theorem cksum_append_singleton_eq_zero_iff {len ck : Byte} :
    cksum len (p ++ [ck]) = 0 ↔ ck = cksum len p := by
  rw [cksum_append, cksum_cons, cksum_nil]
  exact BitVec.xor_eq_zero_iff.trans eq_comm

/-- A mask on one payload byte is that mask on the checksum (R144). -/
theorem cksum_set_xor (len m : Byte) (h : i < p.length) :
    cksum len (p.set i (p.getD i 0 ^^^ m)) = cksum len p ^^^ m := by
  induction p generalizing i len with
  | nil => nomatch h
  | cons b p ih =>
    cases i with
    | zero => rw [List.set_cons_zero, List.getD_cons_zero, cksum_cons, ← BitVec.xor_assoc, cksum_xor, cksum_cons]
    | succ i => rw [List.set_cons_succ, List.getD_cons_succ, cksum_cons, ih _ (Nat.lt_of_succ_lt_succ h), cksum_cons]

/-- Each of the bit numbers 0 to 7 names a bit of a byte. -/
theorem bit_ne_zero : ∀ k < 8, 1#8 <<< k ≠ 0#8 := by decide

/-- CKSUM always completes (R140). -/
theorem exec_cksum (len : Byte) (p : List Byte) (s : State) :
    exec (.cksum len p) s = .next { s with cksumOut := cksumResult len p, ev := .none } := by
  rw [exec, execCksum, raise_none]

end Sys2Proof.Machine

namespace Sys2Proof.Proofs
open Sys2Proof.Machine

/-- Settles O29: exclusive-or is associative and commutative, so neither the order of the bytes nor the end matters. -/
theorem cksumOrderDoesNotMatter : Obligations.CksumOrderDoesNotMatter :=
  fun len p _ h => ⟨cksum_perm len h, cksum_eq_foldr len p⟩

/-- Settles O30: the fold from 0 over LEN, payload and trailing byte is the checksum with that byte folded in. -/
theorem framedPayloadFoldsToZero : Obligations.FramedPayloadFoldsToZero := by
  refine ⟨cksum_frameOf_drop_two, fun len ck p => ?_⟩
  have hfold : (len :: (p ++ [ck])).foldl (· ^^^ ·) 0 = cksum len (p ++ [ck]) := cksum_zero_cons len _
  rw [hfold, cksum_append_singleton_eq_zero_iff]

/-- Settles O31: the flipped bit is a mask, which the fold passes through from LEN and from each payload byte. -/
theorem oneFlippedBitChangesFold : Obligations.OneFlippedBitChangesFold :=
  fun len p _ hk => ⟨cksum_xor len _ p, fun _ hi => cksum_set_xor len _ hi,
    mt xor_left_eq_self_iff.1 (bit_ne_zero _ hk)⟩

/-- Settles O28: on the 0 to 255 bytes of R140 the result is the fold. -/
theorem cksumReturnsXorFold : Obligations.CksumReturnsXorFold :=
  fun s len p => ⟨cksumResult len p, exec_cksum len p s, cksumResult_of_length_le⟩

end Sys2Proof.Proofs
end

section
/-! Slices and single bytes (spec/42_receiver.md R161, R163): RXBYTE is total, O10; the first byte of a slice is RXBYTE, O14, and a
slice can be cut anywhere, O13. -/

namespace Sys2Proof.Machine

variable {s t u : State} {b : Byte} {bs : List Byte}

/-- What neither a byte nor the slice's own outputs write, no slice writes (R163). -/
theorem takeBytes_keeps {α : Type} {f : State → α} (hslice : ∀ s e l, f (State.withSlice s e l) = f s)
    (hbyte : ∀ {b s t}, takeByte b s = .next t → f t = f s) (h : takeBytes bs s = .next t) : f t = f s := by
  induction bs generalizing s with
  | nil => cases h; rfl
  | cons b bs ih =>
    obtain ⟨u, hu, h⟩ := andThen_eq_next.1 h
    calc f t = f (noteSliceEvent u) := ih h
      _ = f u := hslice u u.ev _
      _ = f s := hbyte hu

theorem deliver_keeps {α : Type} {f : State → α} (hslice : ∀ s e l, f (State.withSlice s e l) = f s)
    (hbyte : ∀ {b s t}, takeByte b s = .next t → f t = f s) (h : deliver bs s = .next t) : f t = f s :=
  (takeBytes_keeps hslice hbyte h).trans (hslice s .none [])

/-- No slice opens or closes the link (R302). -/
theorem deliver_linkClosed (h : deliver bs s = .next t) : t.linkClosed = s.linkClosed :=
  deliver_keeps (fun _ _ _ => rfl) takeByte_linkClosed h

/-- The event sequence and the slice's result grow by the same events (R163). -/
theorem takeBytes_events (h : takeBytes bs s = .next t) :
    ∃ l, t.events = s.events ++ l ∧ t.sliceOut = s.sliceOut ++ l := by
  induction bs generalizing s with
  | nil => cases h; exact ⟨[], by simp⟩
  | cons b bs ih =>
    obtain ⟨u, hu, h⟩ := andThen_eq_next.1 h
    have hevents : u.events = s.events ++ u.ev.toList := takeByte_raisesOneEvent hu
    obtain ⟨l, hl, hout⟩ := ih h
    refine ⟨u.ev.toList ++ l, ?_, ?_⟩
    · rw [hl, noteSliceEvent_events, hevents, List.append_assoc]
    · rw [hout, noteSliceEvent_sliceOut, takeByte_sliceOut hu, List.append_assoc]

/-- A slice's result is what it adds to the event sequence (R163). -/
theorem deliver_events (h : deliver bs s = .next t) : t.events = s.events ++ t.sliceOut := by
  obtain ⟨l, hl, hout⟩ := takeBytes_events h
  rw [hl, hout]
  rfl

/-- A slice of one byte is RXBYTE of it, with its event as the result (R163). -/
theorem deliver_singleton (h : takeByte b s = .next t) : deliver [b] s = .next (t.withSlice t.ev t.ev.toList) :=
  congrArg (andThen · fun t => takeBytes [] (noteSliceEvent t)) (takeByte_withSlice .none [] h)

/-- A slice of one byte or more is RXBYTE of its first byte and then the rest (R163). -/
theorem deliver_cons (ht : takeByte b s = .next t) (hu : deliver bs t = .next u) :
    deliver (b :: bs) s = .next (u.withSlice (if bs = [] then t.ev else u.ev) (t.ev.toList ++ u.sliceOut)) :=
  deliver_append (deliver_singleton ht) hu

end Sys2Proof.Machine

namespace Sys2Proof.Proofs
open Sys2Proof.Machine

/-- Settles O10: under the invariant every selected rule has a next state. -/
theorem rxbyteNeverRefusedNeverBlocks : Obligations.RxbyteNeverRefusedNeverBlocks :=
  fun _ b hi ho => hi.exists_takeByte ho b

/-- Settles O14: the first byte is a slice of its own, and the rest is delivered behind it. -/
theorem sliceIsRxbyteInOrder : Obligations.SliceIsRxbyteInOrder := by
  intro s b bs hi ho
  obtain ⟨t, ht⟩ := hi.exists_takeByte ho b
  obtain ⟨u, hu⟩ := (hi.takeByte ht).exists_deliver ((takeByte_linkClosed ht).trans ho) bs
  have hv := deliver_cons ht hu
  exact ⟨t, u, _, ht, hu, hv, rfl, deliver_events hv⟩

/-- Settles O13: the second part is delivered in the state the first one leaves. -/
theorem sliceBoundaryHasNoMeaning : Obligations.SliceBoundaryHasNoMeaning := by
  refine ⟨fun s => rfl, fun s xs ys hi ho => ?_⟩
  obtain ⟨t, ht⟩ := hi.exists_deliver ho xs
  obtain ⟨u, hu⟩ := (hi.deliver ht).exists_deliver ((deliver_linkClosed ht).trans ho) ys
  exact ⟨t, u, _, ht, hu, deliver_append ht hu, rfl⟩

end Sys2Proof.Proofs
end

section
/-! The receiver's progress (spec/42_receiver.md R165, R167): each byte ends the frame, raises an event, or brings the receiver
nearer to the last byte of the longest registered frame, O53. -/

namespace Sys2Proof.Machine

variable {s t : State} {b : Byte} {bs : List Byte}

/-- How many more bytes may come before the one that brings the receiver back to IDLE or raises an event: from IDLE two magic
bytes, LEN and the 25 payload bytes of the longest registered frame (R167, log 11). -/
def bytesToCksum (s : State) : Nat :=
  match s.st with
  | .idle => 28
  | .sync => 27
  | .length => 26
  | .payload => if s.cnt = 0 then 25 else s.rxLen.toNat - s.cnt
  | .check => 0

theorem bytesToCksum_of_id (hst : s.st = .payload) (hc : s.cnt = 0) : bytesToCksum s = 25 := by
  rw [bytesToCksum, hst]
  exact if_pos hc

theorem bytesToCksum_of_body (hst : s.st = .payload) (hc : s.cnt ≠ 0) : bytesToCksum s = s.rxLen.toNat - s.cnt := by
  rw [bytesToCksum, hst]
  exact if_neg hc

theorem bytesToCksum_of_check (hst : s.st = .check) : bytesToCksum s = 0 := by
  rw [bytesToCksum, hst]

/-- The longest registered payload has 25 bytes (R83, log 11). -/
theorem expectedLen_toNat_le (id : Byte) : (expectedLen id).toNat ≤ 25 := by
  by_cases h : expectedLen id = 0
  · simp [h]
  · rcases registered_cases h with ⟨-, h4⟩ | ⟨-, h25⟩ <;> omega

/-- A LEN that the registry accepts is at most 25. -/
theorem rxLen_toNat_le_of_idAccepted (h : idAccepted s b = true) : s.rxLen.toNat ≤ 25 := by
  rw [← (idAccepted_iff.1 h).2]
  exact expectedLen_toNat_le b

theorem bytesToCksum_le (hi : Inv s) : bytesToCksum s ≤ 28 := by
  cases hst : s.st with
  | idle | sync | length | check => simp [bytesToCksum, hst]
  | payload =>
    by_cases hc : s.cnt = 0
    · simp [bytesToCksum_of_id hst hc]
    · obtain ⟨hid, -⟩ := hi.id_registered (.inl hst) (Nat.one_le_iff_ne_zero.2 hc)
      have hle := expectedLen_toNat_le s.buf[0]
      rw [hid] at hle
      rw [bytesToCksum_of_body hst hc]
      omega

/-- After CHECK the receiver is in IDLE, whatever the checksum byte (R159, R160). -/
theorem takeByte_check_st (hst : s.st = .check) (h : takeByte b s = .next t) : t.st = .idle := by
  rw [takeByte_check (takeByte_eq_next.1 h).1 hst] at h
  split at h
  · exact (dispatch_receiver h).1
  · cases h
    rfl

/-- An accepted id byte leaves at most 24 bytes before the checksum (R156). -/
theorem bytesToCksum_storeId (hb : idAccepted s b = true) : bytesToCksum
    { s with buf := s.buf.set 0 b, cnt := 1, st := if s.rxLen = 1 then .check else .payload, ev := .none } < 25 := by
  have hle := rxLen_toNat_le_of_idAccepted hb
  by_cases h1 : s.rxLen = 1
  · rw [bytesToCksum_of_check (if_pos h1)]
    decide
  · rw [bytesToCksum_of_body (if_neg h1) Nat.one_ne_zero]
    show s.rxLen.toNat - 1 < 25
    omega

/-- A further payload byte leaves one byte less (R158). -/
theorem bytesToCksum_storeBody (hlt : s.cnt < s.rxLen.toNat) (hn : s.cnt < Config.bufSize) : bytesToCksum
    { s with
      buf := s.buf.set s.cnt b, cnt := s.cnt + 1
      st := if s.cnt + 1 = s.rxLen.toNat then .check else .payload, ev := .none } < s.rxLen.toNat - s.cnt := by
  by_cases hfull : s.cnt + 1 = s.rxLen.toNat
  · rw [bytesToCksum_of_check (if_pos hfull)]
    omega
  · rw [bytesToCksum_of_body (if_neg hfull) (Nat.succ_ne_zero _)]
    show s.rxLen.toNat - (s.cnt + 1) < s.rxLen.toNat - s.cnt
    omega

/-- One byte ends in IDLE, raises an event, or leaves fewer bytes before the checksum (R165, R167). -/
theorem Inv.takeByte_progress (hi : Inv s) (h : Machine.takeByte b s = .next t) :
    t.st = .idle ∨ t.ev ≠ .none ∨ bytesToCksum t < bytesToCksum s := by
  have ho := (takeByte_eq_next.1 h).1
  cases hst : s.st with
  | idle =>
    rw [takeByte_idle ho hst] at h
    cases h
    by_cases hb : b = Config.magic0
    · exact .inr (.inr (by simp [bytesToCksum, hst, hb]))
    · exact .inl (if_neg hb)
  | sync =>
    rw [takeByte_sync ho hst] at h
    cases h
    split
    · exact .inr (.inr (by simp [bytesToCksum, hst]))
    · exact .inl rfl
  | length =>
    rw [takeByte_length ho hst] at h
    cases h
    exact .inr (.inr (by simp [bytesToCksum, hst]))
  | payload =>
    by_cases hc : s.cnt = 0
    · rw [takeByte_id ho hst hc] at h
      cases h
      split
      · rw [bytesToCksum_of_id hst hc]
        exact .inr (.inr (bytesToCksum_storeId ‹_›))
      · exact .inl rfl
    · have hn := hi.cnt_lt_bufSize hst
      rw [takeByte_body ho hst hc hn] at h
      cases h
      rw [bytesToCksum_of_body hst hc]
      exact .inr (.inr (bytesToCksum_storeBody ((hi.payload_short hst).resolve_right hc) hn))
  | check => exact .inl (takeByte_check_st hst h)

/-- So many bytes and one more hold the byte that ends in IDLE or raises an event (R167). -/
theorem Inv.takeBytes_progress (hi : Inv s) (ho : s.linkClosed = false) (hlen : bytesToCksum s < bs.length) :
    ∃ k t, 1 ≤ k ∧ k ≤ bs.length ∧ Machine.takeBytes (bs.take k) s = .next t ∧ (t.st = .idle ∨ t.sliceOut ≠ []) := by
  induction bs generalizing s with
  | nil => nomatch hlen
  | cons b bs ih =>
    obtain ⟨t, ht⟩ := hi.exists_takeByte ho b
    have hfirst : Machine.takeBytes ((b :: bs).take 1) s = .next (noteSliceEvent t) :=
      congrArg (andThen · fun t => Machine.takeBytes [] (noteSliceEvent t)) ht
    rcases hi.takeByte_progress ht with hidle | hev | hless
    · exact ⟨1, _, le_rfl, Nat.le_add_left 1 _, hfirst, .inl hidle⟩
    · refine ⟨1, _, le_rfl, Nat.le_add_left 1 _, hfirst, .inr ?_⟩
      simp [toList_of_ne_none hev]
    · have hn : Inv (noteSliceEvent t) := { hi.takeByte ht with }
      have hshort : bytesToCksum (noteSliceEvent t) < bs.length :=
        Nat.lt_of_lt_of_le hless (Nat.le_of_lt_succ hlen)
      obtain ⟨k, u, -, hk, hu, hend⟩ := ih hn ((takeByte_linkClosed ht).trans ho) hshort
      refine ⟨k + 1, u, Nat.le_add_left 1 k, Nat.succ_le_succ hk, ?_, hend⟩
      rw [List.take_succ_cons, takeBytes_cons, ht, andThen_next, hu]

end Sys2Proof.Machine

namespace Sys2Proof.Proofs
open Sys2Proof.Machine

/-- Settles O53: from no state of the invariant are more than 28 bytes before the one that ends the frame. -/
theorem receiverReturnsWithinOneFrame : Obligations.ReceiverReturnsWithinOneFrame := by
  intro s bs hi ho hlen
  have hstart : Inv { s with ev := .none, sliceOut := [] } := { hi with }
  have hless : bytesToCksum { s with ev := .none, sliceOut := [] } < bs.length :=
    hlen ▸ Nat.lt_succ_of_le (bytesToCksum_le hstart)
  obtain ⟨k, t, hpos, hk, ht, hend⟩ := hstart.takeBytes_progress ho hless
  exact ⟨k, t, hpos, hlen ▸ hk, ht, hend⟩

end Sys2Proof.Proofs
end

section
/-! What the host leaves alone (spec/42_receiver.md R161, spec/20_memory.md R66, spec/70_reset_and_hazards.md R302): RESET, OPEN and
CLOSE apart, an instruction takes bytes from the transport or writes no register of the receiver, O51. -/

namespace Sys2Proof.Machine

variable {s t : State} {b : Byte} {p : List Byte} {i : Instr}

/-- From `s` to `t` the registers of the receiver, the link and the presented operations are as they were (R66). -/
structure KeepsReceiver (s t : State) : Prop where
  st : t.st = s.st
  rxLen : t.rxLen = s.rxLen
  cnt : t.cnt = s.cnt
  buf : t.buf = s.buf
  linkClosed : t.linkClosed = s.linkClosed
  pending : t.pending = s.pending

theorem keepsReceiver_encodeStep (id : Byte) (p : List Byte) (s : State) : KeepsReceiver s (encodeStep id p s) := by
  rcases encodeStep_cases id p s with ⟨c, -, h⟩ | ⟨-, h⟩ <;> rw [h] <;> exact ⟨rfl, rfl, rfl, rfl, rfl, rfl⟩

theorem execQuant_keepsReceiver {a : Angle} (h : execQuant a s = .next t) : KeepsReceiver s t := by
  obtain ⟨q, rfl⟩ := execQuant_eq_next h
  exact ⟨rfl, rfl, rfl, rfl, rfl, rfl⟩

theorem execTlmSend_keepsReceiver (h : execTlmSend p s = .next t) : KeepsReceiver s t := by
  rcases execTlmSend_cases p s with ht | ht <;> rw [ht] at h <;> cases h
  · exact keepsReceiver_encodeStep _ p s
  · exact ⟨rfl, rfl, rfl, rfl, rfl, rfl⟩

theorem execHsStart_keepsReceiver (h : execHsStart s = .next t) : KeepsReceiver s t := by
  obtain ⟨-, rfl⟩ := execHsStart_eq_next.1 h
  exact { keepsReceiver_encodeStep Config.idHandshake challengePayload { s with hs := .awaitingReply, hsAtt := 0 } with }

theorem execHsPoll_keepsReceiver (h : execHsPoll s = .next t) : KeepsReceiver s t := by
  unfold execHsPoll at h
  split at h
  · cases h; exact ⟨rfl, rfl, rfl, rfl, rfl, rfl⟩
  · split at h <;> cases h <;> exact ⟨rfl, rfl, rfl, rfl, rfl, rfl⟩

/-- The mux changes nothing that is still to be presented (R66). -/
theorem dispatch_pending (h : dispatch p s = .next t) : t.pending = s.pending := by
  rcases dispatch_eq_next h with ⟨c, -, rfl⟩ | ⟨m1, m2, m3, rest, -, -, rfl⟩ | rfl <;> rfl

theorem bufStore_pending {a : Nat} (h : bufStore a b s = .next t) : t.pending = s.pending := by
  obtain ⟨-, rfl⟩ := bufStore_eq_next.1 h
  rfl

/-- No rule of the receiver changes what is still to be presented (R151 to R160, R66). -/
theorem applyRule_pending {c : RxClass} (h : applyRule c b s = .next t) : t.pending = s.pending := by
  cases c with
  | idleBe | idleSkip | syncEf | syncMiss | lengthAny | payloadIdRej | checkFail => cases h; rfl
  | payloadIdOk | payloadBody =>
    simp only [applyRule, rulePayloadIdOk, rulePayloadBody] at h
    exact (bufStore_pending h).trans rfl
  | checkOk => exact (dispatch_pending h).trans rfl

theorem takeByte_pending (h : takeByte b s = .next t) : t.pending = s.pending :=
  applyRule_pending (takeByte_eq_next.1 h).2

theorem deliver_pending {bs : List Byte} (h : deliver bs s = .next t) : t.pending = s.pending :=
  deliver_keeps (fun _ _ _ => rfl) takeByte_pending h

/-- Apart from RESET, OPEN and CLOSE, an instruction is the transport's and takes a byte or a slice, or it leaves the receiver
alone (R161, R66). -/
theorem exec_takes_or_keepsReceiver (hr : i ∉ [Instr.resetBlock, .openLink, .closeLink]) (h : exec i s = .next t) :
    (i.agent = .transport ∧ ((∃ b, takeByte b s = .next t) ∨ ∃ bs, deliver bs s = .next t)) ∨ KeepsReceiver s t := by
  cases i with
  | frameHandshake | frameControl | frameTelemetry | rxslice => exact .inl ⟨rfl, .inr ⟨_, h⟩⟩
  | rxbyte b => exact .inl ⟨rfl, .inl ⟨b, h⟩⟩
  | idleBe | idleSkip | syncEf | syncMiss | lengthAny | payloadIdOk | payloadIdRej | payloadBody | checkOk | checkFail =>
    exact .inl ⟨rfl, .inl ⟨_, takeByte_of_takeRow h⟩⟩
  | resetBlock | openLink | closeLink => exact absurd hr (by simp)
  | encodeFrame id p => cases h; exact .inr (keepsReceiver_encodeStep id p s)
  | quant => exact .inr (execQuant_keepsReceiver h)
  | tlmSend => exact .inr (execTlmSend_keepsReceiver h)
  | hsStart => exact .inr (execHsStart_keepsReceiver h)
  | hsPoll => exact .inr (execHsPoll_keepsReceiver h)
  | _ => cases h; exact .inr ⟨rfl, rfl, rfl, rfl, rfl, rfl⟩

/-- RESET, OPEN and CLOSE present nothing either (R66). -/
theorem exec_pending (h : exec i s = .next t) : t.pending = s.pending := by
  by_cases hr : i ∈ [Instr.resetBlock, .openLink, .closeLink]
  · simp only [List.mem_cons, List.not_mem_nil, or_false] at hr
    rcases hr with rfl | rfl | rfl <;> cases h <;> rfl
  · rcases exec_takes_or_keepsReceiver hr h with ⟨-, ⟨b, hb⟩ | ⟨bs, hd⟩⟩ | hk
    · exact takeByte_pending hb
    · exact deliver_pending hd
    · exact hk.pending

/-- Only OPEN and CLOSE open or close the link (R302, log 7). -/
theorem exec_linkClosed (hlink : i ∉ [Instr.openLink, .closeLink]) (h : exec i s = .next t) :
    t.linkClosed = s.linkClosed := by
  by_cases hr : i ∈ [Instr.resetBlock, .openLink, .closeLink]
  · obtain rfl := (List.mem_cons.1 hr).resolve_right hlink
    cases h
    rfl
  · rcases exec_takes_or_keepsReceiver hr h with ⟨-, ⟨b, hb⟩ | ⟨bs, hd⟩⟩ | hk
    · exact takeByte_linkClosed hb
    · exact deliver_linkClosed hd
    · exact hk.linkClosed

theorem exec_keepsReceiver_of_host (hhost : i.agent = .host) (hr : i ∉ [Instr.resetBlock, .openLink, .closeLink])
    (h : exec i s = .next t) : KeepsReceiver s t := by
  rcases exec_takes_or_keepsReceiver hr h with ⟨htransport, -⟩ | hk
  · exact nomatch htransport.symm.trans hhost
  · exact hk

end Sys2Proof.Machine

namespace Sys2Proof.Proofs
open Sys2Proof.Machine

/-- Settles O51: an instruction of the host that is none of RESET, OPEN and CLOSE takes no byte, so it leaves the receiver
alone. -/
theorem hostLeavesReceiverAlone : Obligations.HostLeavesReceiverAlone := by
  intro i s t h
  refine ⟨exec_pending h, fun hlink => exec_linkClosed hlink h, fun hhost hr => ?_⟩
  have hk := exec_keepsReceiver_of_host hhost hr h
  exact ⟨hk.st, hk.rxLen, hk.cnt, hk.buf⟩

end Sys2Proof.Proofs
end

section
/-! The rows of R94 by name (spec/42_receiver.md R151 to R160): a row whose condition holds is RXBYTE of its byte, so each is what the
receiver's step does in its state. O1, O2, O3, O4, O6, O7 and O9. -/

namespace Sys2Proof.Machine

variable {s : State} {b id : Byte} {p : List Byte}

/-! ### Which row is selected -/

theorem classify_of_idle (hst : s.st = .idle) (b : Byte) :
    classify s b = if b = Config.magic0 then .idleBe else .idleSkip := by
  rw [classify, hst]

theorem classify_of_sync (hst : s.st = .sync) (b : Byte) :
    classify s b = if b = Config.magic1 then .syncEf else .syncMiss := by
  rw [classify, hst]

theorem classify_of_length (hst : s.st = .length) (b : Byte) : classify s b = .lengthAny := by
  rw [classify, hst]

theorem classify_of_id (hst : s.st = .payload) (hc : s.cnt = 0) (b : Byte) :
    classify s b = if idAccepted s b then .payloadIdOk else .payloadIdRej := by
  rw [classify, hst]
  exact if_pos hc

theorem classify_of_body (hst : s.st = .payload) (hc : s.cnt ≠ 0) (b : Byte) : classify s b = .payloadBody := by
  rw [classify, hst]
  exact if_neg hc

theorem classify_of_check (hst : s.st = .check) (b : Byte) :
    classify s b = if b = cksum s.rxLen (payloadOf s) then .checkOk else .checkFail := by
  rw [classify, hst]

/-- The row of the class a byte falls in is RXBYTE of that byte (R161). -/
theorem exec_rowOf_of_classify {c : RxClass} (h : classify s b = c) : exec (rowOf c b) s = takeByte b s := by
  rw [← h, exec_rowOf_classify]

/-! ### The completed payload -/

/-- The first byte of a payload is its id (R25). -/
theorem memRead1_zero_of_head? (h : p.head? = some id) : memRead1 p 0 = id := by
  obtain ⟨body, rfl⟩ := List.head?_eq_some_iff.1 h
  rfl

end Sys2Proof.Machine

namespace Sys2Proof.Proofs
open Sys2Proof.Machine

/-- Settles O1: both rows are the receiver's step in IDLE. -/
theorem idleScansForFirstMagicByte : Obligations.IdleScansForFirstMagicByte := by
  intro s ho hst
  have hbe : classify s 0xBE = .idleBe := (classify_of_idle hst _).trans (if_pos rfl)
  refine ⟨(exec_rowOf_of_classify hbe).trans (takeByte_idle ho hst), fun b (hb : b ≠ Config.magic0) => ?_⟩
  have hskip : classify s b = .idleSkip := (classify_of_idle hst b).trans (if_neg hb)
  exact (exec_rowOf_of_classify hskip).trans (by rw [takeByte_idle ho hst, if_neg hb])

/-- Settles O2: both rows are the receiver's step in SYNC, where `0xBE` is a byte like any other. -/
theorem syncNeedsSecondMagicByteNext : Obligations.SyncNeedsSecondMagicByteNext := by
  intro s ho hst
  have hef : classify s 0xEF = .syncEf := (classify_of_sync hst _).trans (if_pos rfl)
  refine ⟨(exec_rowOf_of_classify hef).trans (takeByte_sync ho hst), fun b (hb : b ≠ Config.magic1) => ?_⟩
  have hmiss : classify s b = .syncMiss := (classify_of_sync hst b).trans (if_neg hb)
  exact (exec_rowOf_of_classify hmiss).trans (by rw [takeByte_sync ho hst, if_neg hb]; rfl)

/-- Settles O3: the row is the receiver's step in LENGTH. -/
theorem lengthByteLatched : Obligations.LengthByteLatched :=
  fun _ b ho hst => (exec_rowOf_of_classify (classify_of_length hst b)).trans (takeByte_length ho hst)

/-- Settles O4: the row is the receiver's step on an accepted id byte. -/
theorem idByteAcceptedAtSlotZero : Obligations.IdByteAcceptedAtSlotZero := by
  intro s b ho hst hc hne heq
  have hacc : idAccepted s b = true := idAccepted_iff.2 ⟨hne, heq⟩
  have hrow : classify s b = .payloadIdOk := (classify_of_id hst hc b).trans (if_pos hacc)
  have hbyte := takeByte_id (b := b) ho hst hc
  rw [if_pos hacc] at hbyte
  have hn : 0 < Config.bufSize := by decide
  exact ⟨_, (exec_rowOf_of_classify hrow).trans hbyte, rfl, Vector.getElem?_set_self hn,
    fun a ha => Vector.getElem?_set_ne hn ha.symm⟩

/-- Settles O6: the row is the receiver's step on a further payload byte. -/
theorem bodyByteStoredAtCnt : Obligations.BodyByteStoredAtCnt := by
  intro s b ho hst hpos hn
  have hc : s.cnt ≠ 0 := Nat.one_le_iff_ne_zero.1 hpos
  exact ⟨_, (exec_rowOf_of_classify (classify_of_body hst hc b)).trans (takeByte_body ho hst hc hn), rfl,
    Vector.getElem?_set_self hn, fun a ha => Vector.getElem?_set_ne hn ha.symm⟩

/-- Settles O7: the row is the receiver's step on the right checksum byte, and the mux decodes the payload. -/
theorem completedControlFrameReplacesCur : Obligations.CompletedControlFrameReplacesCur := by
  intro s p ho hst hp hlen hid
  subst hp
  have hrow : classify s (cksum s.rxLen (payloadOf s)) = .checkOk := (classify_of_check hst _).trans (if_pos rfl)
  have hbyte := takeByte_check (b := cksum s.rxLen (payloadOf s)) ho hst
  rw [if_pos rfl, memRead1_zero_of_head? hid] at hbyte
  obtain ⟨body, hbody⟩ := List.head?_eq_some_iff.1 hid
  rw [hbody] at hlen
  obtain ⟨c, hc, hd⟩ := dispatch_control (Nat.succ.inj hlen)
    (raise (.frame 101 (payloadOf s)) (forgetFrame { s with st := .idle }))
  rw [← hbody] at hc hd
  exact ⟨_, c, (exec_rowOf_of_classify hrow).trans (hbyte.trans hd), hc, rfl⟩

/-- Settles O9: the row is the receiver's step on a wrong checksum byte. -/
theorem checksumMismatchRaisesRejCksum : Obligations.ChecksumMismatchRaisesRejCksum := by
  intro s p id b ho hst hp hid hb
  subst hp
  have hrow : classify s b = .checkFail := (classify_of_check hst b).trans (if_neg hb)
  have hbyte := takeByte_check (b := b) ho hst
  rw [if_neg hb, memRead1_zero_of_head? hid] at hbyte
  exact ⟨_, (exec_rowOf_of_classify hrow).trans hbyte, rfl⟩

end Sys2Proof.Proofs
end

section
/-! The handshake (spec/43_handshake.md R190 to R194): HS_START, O40, and HS_POLL, O41, by the branches of each; a completed
Handshake frame, O8; what leaves a resolved handshake as it is, O42. -/

namespace Sys2Proof.Machine

variable {s t : State} {b : Byte} {p : List Byte} {i : Instr}

/-! ### The commands -/

theorem exec_hsStart (s : State) : exec .hsStart s = execHsStart s := rfl

theorem exec_hsPoll (s : State) : exec .hsPoll s = execHsPoll s := rfl

theorem execHsStart_of_started (hs : s.hs ≠ .notStarted) : execHsStart s = .refused .handshakeStarted := if_neg hs

/-- The challenge is a payload ENCODE can frame, and its frame is the eight bytes of R191. -/
theorem frameOf_challengePayload :
    frameOf challengePayload = [0xBE, 0xEF, 0x04, 0x00, 0x01, 0x02, 0x03, 0x04] := by decide

/-- With no reply awaited HS_POLL only clears the event output (R192). -/
theorem execHsPoll_of_not_awaiting (ha : s.hs ≠ .awaitingReply) : execHsPoll s = .next { s with ev := .none } :=
  (if_pos ha).trans (congrArg Host.Outcome.next (raise_none s))

/-- The poll that reaches the budget ends the wait (R192). -/
theorem execHsPoll_of_budget_reached (ha : s.hs = .awaitingReply) (hb : s.hsAtt + 1 ≥ Config.hsMaxAttempts) :
    execHsPoll s = .next (raise .hsTimeout { s with hsAtt := Config.hsMaxAttempts, hs := .timedOut }) :=
  (if_neg (not_not.2 ha)).trans (if_pos hb)

/-- A poll inside the budget counts one attempt (R192). -/
theorem execHsPoll_of_budget_left (ha : s.hs = .awaitingReply) (hb : s.hsAtt + 1 < Config.hsMaxAttempts) :
    execHsPoll s = .next (raise .none { s with hsAtt := s.hsAtt + 1 }) :=
  (if_neg (not_not.2 ha)).trans (if_neg (Nat.not_le_of_lt hb))

/-! ### The completed payload -/

/-- On the right checksum byte CHECK.OK hands the payload to the mux (R159). -/
theorem exec_checkOk (ho : s.linkClosed = false) (hst : s.st = .check) :
    exec (.checkOk (cksum s.rxLen (payloadOf s))) s = dispatch (payloadOf s)
      (raise (.frame (memRead1 (payloadOf s) 0) (payloadOf s)) (forgetFrame { s with st := .idle })) := by
  have hrow : classify s (cksum s.rxLen (payloadOf s)) = .checkOk := (classify_of_check hst _).trans (if_pos rfl)
  exact (exec_rowOf_of_classify hrow).trans ((takeByte_check ho hst).trans (if_pos rfl))

/-! ### What leaves the handshake state as it is -/

/-- The mux resolves only an awaited handshake (R162, R194). -/
theorem dispatch_hs (ha : s.hs ≠ .awaitingReply) (h : dispatch p s = .next t) : t.hs = s.hs := by
  rcases dispatch_eq_next h with ⟨c, -, rfl⟩ | ⟨m1, m2, m3, rest, -, hawait, rfl⟩ | rfl
  · rfl
  · exact absurd hawait ha
  · rfl

theorem bufStore_hs {a : Nat} (h : bufStore a b s = .next t) : t.hs = s.hs := by
  obtain ⟨-, rfl⟩ := bufStore_eq_next.1 h
  rfl

/-- Of the rules of the receiver only R159 can write `hs`, through the mux. -/
theorem applyRule_hs {c : RxClass} (ha : s.hs ≠ .awaitingReply) (h : applyRule c b s = .next t) : t.hs = s.hs := by
  cases c with
  | idleBe | idleSkip | syncEf | syncMiss | lengthAny | payloadIdRej | checkFail => cases h; rfl
  | payloadIdOk | payloadBody =>
    simp only [applyRule, rulePayloadIdOk, rulePayloadBody] at h
    exact (bufStore_hs h).trans rfl
  | checkOk => exact (dispatch_hs (by exact ha) h).trans rfl

theorem takeByte_hs (ha : s.hs ≠ .awaitingReply) (h : takeByte b s = .next t) : t.hs = s.hs :=
  applyRule_hs ha (takeByte_eq_next.1 h).2

theorem takeBytes_hs {bs : List Byte} (ha : s.hs ≠ .awaitingReply) (h : takeBytes bs s = .next t) : t.hs = s.hs := by
  induction bs generalizing s with
  | nil => cases h; rfl
  | cons b bs ih =>
    obtain ⟨u, hu, h⟩ := andThen_eq_next.1 h
    have hkeep : u.hs = s.hs := takeByte_hs ha hu
    exact (ih (hkeep ▸ ha) h).trans hkeep

theorem deliver_hs {bs : List Byte} (ha : s.hs ≠ .awaitingReply) (h : deliver bs s = .next t) : t.hs = s.hs :=
  (takeBytes_hs (by exact ha) h).trans rfl

theorem encodeStep_hs (id : Byte) (p : List Byte) (s : State) : (encodeStep id p s).hs = s.hs := by
  rcases encodeStep_cases id p s with ⟨c, -, h⟩ | ⟨-, h⟩ <;> rw [h] <;> rfl

theorem execTlmSend_hs (h : execTlmSend p s = .next t) : t.hs = s.hs := by
  rcases execTlmSend_cases p s with ht | ht <;> rw [ht] at h <;> cases h
  · exact encodeStep_hs _ p s
  · rfl

/-- Once the handshake is started and no reply is awaited, only RESET, OPEN and CLOSE write `hs` (R190). -/
theorem exec_hs (hn : s.hs ≠ .notStarted) (ha : s.hs ≠ .awaitingReply)
    (hr : i ∉ [Instr.resetBlock, .openLink, .closeLink]) (h : exec i s = .next t) : t.hs = s.hs := by
  cases i with
  | frameHandshake | frameControl | frameTelemetry | rxslice => exact deliver_hs ha h
  | rxbyte => exact takeByte_hs ha h
  | idleBe | idleSkip | syncEf | syncMiss | lengthAny | payloadIdOk | payloadIdRej | payloadBody | checkOk | checkFail =>
    exact takeByte_hs ha (takeByte_of_takeRow h)
  | resetBlock | openLink | closeLink => exact absurd hr (by simp)
  | encodeFrame id p => cases h; exact encodeStep_hs id p s
  | quant => obtain ⟨q, rfl⟩ := execQuant_eq_next h; rfl
  | tlmSend => exact execTlmSend_hs h
  | hsStart => exact absurd (execHsStart_eq_next.1 h).1 hn
  | hsPoll => cases (execHsPoll_of_not_awaiting ha).symm.trans h; rfl
  | _ => cases h; rfl

end Sys2Proof.Machine

namespace Sys2Proof.Proofs
open Sys2Proof.Machine

/-- Settles O42: in a terminal state HS_START is refused, HS_POLL and a completed Handshake frame find no reply awaited, and
nothing else but RESET, OPEN and CLOSE writes `hs`. -/
theorem handshakeOutcomeIsTerminal : Obligations.HandshakeOutcomeIsTerminal := by
  intro i s t hres
  have hn : s.hs ≠ .notStarted := by rcases hres with hc | hc <;> simp [hc]
  have ha : s.hs ≠ .awaitingReply := by rcases hres with hc | hc <;> simp [hc]
  exact exec_hs hn ha

/-- Settles O8: CHECK.OK hands the payload to the mux, and the mux runs the reply check while a reply is awaited. -/
theorem completedHandshakeFrameResolvesAwaited : Obligations.CompletedHandshakeFrameResolvesAwaited := by
  intro s m1 m2 m3 ho hst hp
  have hrow := exec_checkOk ho hst
  rw [hp, dispatch_handshake] at hrow
  exact ⟨_, hrow, rfl⟩

/-- Settles O40: the challenge is encoded from NotStarted, and every other state is refused. -/
theorem hsStartSendsChallenge : Obligations.HsStartSendsChallenge := by
  refine fun s => ⟨fun hs => ?_, execHsStart_of_started⟩
  rw [exec_hsStart, execHsStart_eq_next.2 ⟨hs, rfl⟩, encodeStep_of_framed (by decide) rfl, frameOf_challengePayload]

/-- Settles O41: each clause is the equation of one branch of HS_POLL. -/
theorem hsPollCountsTheBudget : Obligations.HsPollCountsTheBudget := by
  refine fun s => ⟨execHsPoll_of_not_awaiting, execHsPoll_of_budget_reached, fun ha hb => ?_⟩
  rw [exec_hsPoll, execHsPoll_of_budget_left ha hb, raise_none]

end Sys2Proof.Proofs
end

section
/-! The Control decoder (spec/44_control_decoder.md R210 to R218): its FIELD rows alone, O21, O22, O23 and O24, and one after the
other, O25; CTL_DECODE field by field, O18, and the payload bits it does not read, O19; AXIS_FLOAT, O20. -/

namespace Sys2Proof.Machine

variable {p q : List Byte} {lo hi lo' hi' : Byte} {n : Fin 11}

/-! ### One lane -/

theorem lane_eq (g : ControlState → ControlState) (s : State) :
    lane g s = .next { s with dec := g s.dec, ev := .none } :=
  congrArg Host.Outcome.next (raise_none _)

theorem markerLane_eq (g : Markers → Markers) (s : State) :
    markerLane g s = .next { s with hsArgs := g s.hsArgs, ev := .none } :=
  congrArg Host.Outcome.next (raise_none _)

/-! ### The value of a field -/

/-- A bit is set exactly when masking with its weight leaves something (R6). -/
theorem getLsbD_eq_decide_and {w k : Nat} (v : BitVec w) (hk : k < w) :
    v.getLsbD k = decide (v &&& BitVec.twoPow w k ≠ 0) := by
  have hne : BitVec.twoPow w k ≠ 0#w := fun h => by simpa [hk] using congrArg (BitVec.getLsbD · k) h
  rw [BitVec.and_twoPow]
  cases v.getLsbD k <;> simp [hne]

theorem flagBit_eq_decide (m : Byte) (k : Fin 8) : flagBit m k = decide (m &&& BitVec.twoPow 8 k ≠ 0) :=
  getLsbD_eq_decide_and m k.isLt

theorem groupBit_of_ne_zero (cg : Half) (hn : n ≠ 0) : groupBit cg n = cg.getLsbD n := by
  have hn0 : (n.val != 0) = true := bne_iff_ne.2 fun h : n.val = 0 => hn (Fin.ext h)
  rw [groupBit, hn0, Bool.true_and]

theorem groupBit_eq_decide (cg : Half) (hn : n ≠ 0) : groupBit cg n = decide (cg &&& BitVec.twoPow 16 n ≠ 0) := by
  rw [groupBit_of_ne_zero cg hn, getLsbD_eq_decide_and cg (Nat.lt_trans n.isLt (by decide))]

theorem toNat_lowNibble (b : Byte) : (lowNibble b).toNat = b.toNat % 16 := by
  rw [lowNibble, BitVec.toNat_setWidth, BitVec.toNat_and]
  exact (Nat.mod_eq_of_lt (Nat.lt_of_le_of_lt Nat.and_le_right (by decide))).trans
    (Nat.and_two_pow_sub_one_eq_mod b.toNat 4)

theorem toNat_highNibble (b : Byte) : (highNibble b).toNat = b.toNat / 16 := by
  have := b.isLt
  rw [highNibble, BitVec.toNat_setWidth, BitVec.toNat_ushiftRight, Nat.shiftRight_eq_div_pow]
  omega

theorem lowNibble_eq_ofNat (b : Byte) : lowNibble b = BitVec.ofNat 4 (b.toNat % 16) := by
  rw [← toNat_lowNibble, BitVec.ofNat_toNat, BitVec.setWidth_eq]

theorem highNibble_eq_ofNat (b : Byte) : highNibble b = BitVec.ofNat 4 (b.toNat / 16) := by
  rw [← toNat_highNibble, BitVec.ofNat_toNat, BitVec.setWidth_eq]

theorem Axis.value_eq (x : Axis) : x.value = (sext16 x.raw : Rat) / 1000 := by
  rw [Axis.value, Config.axisDivisor, Nat.cast_ofNat]

/-! ### A 16-bit field by its two bytes -/

theorem toNat_le16 (lo hi : Byte) : (le16 lo hi).toNat = lo.toNat + 256 * hi.toNat := by
  have hlo := lo.isLt
  have hhi := hi.isLt
  rw [le16, BitVec.toNat_ofNat]
  omega

/-- The field is its high byte before its low one (R52). -/
theorem le16_eq_append (lo hi : Byte) : le16 lo hi = hi ++ lo := by
  apply BitVec.eq_of_toNat_eq
  rw [toNat_le16, BitVec.toNat_append, ← Nat.shiftLeft_add_eq_or_of_lt lo.isLt, Nat.shiftLeft_eq]
  omega

/-- A group bit is a binary digit of the field's value (R213). -/
theorem groupBit_le16 (lo hi : Byte) (hn : n ≠ 0) :
    groupBit (le16 lo hi) n = decide ((lo.toNat + 256 * hi.toNat) / 2 ^ n.val % 2 = 1) := by
  rw [groupBit_of_ne_zero _ hn, ← BitVec.testBit_toNat, toNat_le16, Nat.testBit_eq_decide_div_mod_eq]

theorem sext16_memRead2 (p : List Byte) (k : Nat) : sext16 (memRead2 p k) = axisRawAt p k := by
  have hval : (memRead2 p k).toNat = (p.getD k 0).toNat + 256 * (p.getD (k + 1) 0).toNat := toNat_le16 _ _
  unfold axisRawAt
  rw [sext16, BitVec.toInt_eq_toNat_cond, ← hval]
  dsimp only
  split <;> split <;> omega

theorem value_memRead2 (p : List Byte) (k : Nat) : (axisOf (memRead2 p k)).value = (axisRawAt p k : Rat) / 1000 := by
  rw [Axis.value_eq, axisOf, sext16_memRead2]

/-! ### CTL_DECODE -/

theorem ctlDecode_eq_some (hlen : p.length = 25) (hid : p.head? = some 101) : ctlDecode p = some (ctlRecord p) :=
  if_pos ⟨hlen, memRead1_zero_of_head? hid⟩

/-- CTL_DECODE has no result outside its domain (R210, U7). -/
theorem ctlDecode_eq_none (h : ¬(p.length = 25 ∧ p.head? = some 101)) : ctlDecode p = none := by
  refine if_neg fun ⟨hlen, hid⟩ => h ⟨hlen, ?_⟩
  obtain ⟨b, body, rfl⟩ := List.exists_cons_of_length_eq_add_one hlen
  exact congrArg some hid

/-! ### What CTL_DECODE reads -/

theorem getLsbD_eq_of_and_eq {w k : Nat} {x y m : BitVec w} (h : x &&& m = y &&& m) (hm : m.getLsbD k = true) :
    x.getLsbD k = y.getLsbD k := by
  simpa [hm] using congrArg (BitVec.getLsbD · k) h

/-- The group bits are those of bits 1 to 7 of the field's low byte and bits 0 to 2 of its high one (R213). -/
theorem groupBit_le16_congr (hlo : lo &&& 0xFE = lo' &&& 0xFE) (hhi : hi &&& 0x07 = hi' &&& 0x07) :
    groupBit (le16 lo hi) = groupBit (le16 lo' hi') := by
  have hmlo : ∀ k < 8, k ≠ 0 → (0xFE : Byte).getLsbD k = true := by decide
  have hmhi : ∀ k < 3, (0x07 : Byte).getLsbD k = true := by decide
  funext n
  by_cases hn : n = 0
  · rw [hn]
    rfl
  · have hn0 : n.val ≠ 0 := fun h => hn (Fin.ext h)
    simp only [groupBit_of_ne_zero _ hn, le16_eq_append, BitVec.getLsbD_append]
    split
    · exact getLsbD_eq_of_and_eq hlo (hmlo n ‹_› hn0)
    · exact getLsbD_eq_of_and_eq hhi (hmhi (n - 8) (by omega))

/-- CTL_DECODE reads the ControlGroup field by its group bits, and does not read the reserved byte (R213, R218). -/
theorem ctlRecord_congr (h : ∀ k, k ∉ [3, 4, 6] → memRead1 p k = memRead1 q k)
    (hg : groupBit (memRead2 p 3) = groupBit (memRead2 q 3)) : ctlRecord p = ctlRecord q := by
  have haxis (k : Nat) (hk : 7 ≤ k) : memRead2 p k = memRead2 q k := by
    rw [memRead2, memRead2, h k (by simp; omega), h (k + 1) (by simp; omega)]
  simp only [ctlRecord, hg, h 1 (by decide), h 2 (by decide), h 5 (by decide), haxis 7 (by decide), haxis 9 (by decide),
    haxis 11 (by decide), haxis 13 (by decide), haxis 15 (by decide), haxis 17 (by decide), haxis 19 (by decide),
    haxis 21 (by decide), haxis 23 (by decide)]

/-! ### The rows in sequence -/

theorem execAll_nil_lane {s : State} (he : s.ev = .none) : execAll [] s = lane (fun c => c) s := by
  rw [lane_eq, ← he, execAll]

/-- A lane before instructions that together are a lane: their composition is one. -/
theorem execAll_cons_lane {i : Instr} {is : List Instr} {g k : ControlState → ControlState}
    (hi : ∀ s, exec i s = lane g s) (his : ∀ s, s.ev = .none → execAll is s = lane k s) (s : State) :
    execAll (i :: is) s = lane (fun c => k (g c)) s := by
  rw [execAll, hi, lane_eq, andThen_next, his _ rfl, lane_eq, lane_eq]

/-- Group rows that reach every index whose entry is not yet the field's bit write the whole of `control_group`. -/
theorem foldl_setGroup {cg : Half} {ns : List (Fin 11)} {c : ControlState}
    (h : ∀ k : Fin 11, k ∉ ns → c.controlGroup[k] = groupBit cg k) :
    ns.foldl (fun c n => setGroup n cg c) c = { c with controlGroup := Vector.ofFn (groupBit cg) } := by
  induction ns generalizing c with
  | nil =>
    have hall : c.controlGroup = Vector.ofFn (groupBit cg) :=
      Vector.ext fun k hk => (h ⟨k, hk⟩ List.not_mem_nil).trans (Vector.getElem_ofFn hk).symm
    rw [← hall, List.foldl_nil]
  | cons n ns ih =>
    refine ih (c := setGroup n cg c) fun k hk => ?_
    by_cases hkn : k = n
    · rw [hkn]
      exact Vector.getElem_set_self n.isLt
    · have hkeep : (setGroup n cg c).controlGroup[k] = c.controlGroup[k] :=
        Vector.getElem_set_ne n.isLt k.isLt fun hnk => hkn (Fin.ext hnk.symm)
      rw [hkeep, h k (List.not_mem_cons_of_ne_of_not_mem hkn hk)]

/-- What the ControlGroup rows, in the order of the table, make of a record (R213). -/
def setGroups (cg : Half) (c : ControlState) : ControlState :=
  [1, 2, 3, 4, 5, 6, 7, 8, 9, 10, 0].foldl (fun c n => setGroup n cg c) c

theorem setGroups_eq (cg : Half) (c : ControlState) :
    setGroups cg c = { c with controlGroup := Vector.ofFn (groupBit cg) } :=
  foldl_setGroup fun _ hk => absurd (by decide +revert) hk

/-- The FIELD rows of a Control payload are together one lane, which writes CTL_DECODE's record over any other (R210). -/
theorem execAll_controlFieldRows (p : List Byte) (s : State) :
    execAll (controlFieldRows p) s = lane (fun _ => ctlRecord p) s := by
  have ⟨g, hrows, hg⟩ : ∃ g : ControlState → ControlState, (∀ s, execAll (controlFieldRows p) s = lane g s) ∧
      ∀ c, g c = setGroups (memRead2 p 3) { ctlRecord p with controlGroup := c.controlGroup } := by
    -- `g` is the rows' composition: the chain below builds it row by row, and the second goal says what it is
    apply Exists.intro
    constructor
    · intro s
      rw [controlFieldRows]
      repeat
        apply execAll_cons_lane
        · exact fun s => by rw [exec]; rfl
        intro s he
      exact execAll_nil_lane he
    · exact fun c => rfl
  have hrecord : g = fun _ => ctlRecord p := funext fun c => (hg c).trans (setGroups_eq _ _)
  rw [hrows, hrecord]

end Sys2Proof.Machine

namespace Sys2Proof.Proofs
open Sys2Proof.Machine

/-- Settles O18: CTL_DECODE's result on its domain is the record of the payload's fields, each by its value. -/
theorem ctlDecodeFieldByField : Obligations.CtlDecodeFieldByField := by
  refine ⟨fun p => ctlDecode_eq_none, fun p hlen hid => ?_⟩
  have hd := ctlDecode_eq_some hlen hid
  have hflag := flagBit_eq_decide (p.getD 1 0)
  have hgroup (n : Fin 11) (hn : n ≠ 0) : (ctlRecord p).controlGroup[n] =
      decide (((p.getD 3 0).toNat + 256 * (p.getD 4 0).toNat) / 2 ^ n.val % 2 = 1) :=
    (Vector.getElem_ofFn n.isLt).trans (groupBit_le16 _ _ hn)
  exact ⟨ctlRecord p, hd, hflag 7, hflag 6, hflag 5, hflag 4, hflag 3, hflag 2, hflag 1, hflag 0, rfl,
    controlGroup_zero_of_ctlDecode hd, hgroup, toNat_lowNibble _, toNat_highNibble _,
    List.map_congr_left (l := [7, 9, 11, 13, 15, 17, 19, 21, 23]) fun k _ => sext16_memRead2 p k,
    List.map_congr_left (l := [7, 9, 11, 13, 15, 17, 19, 21, 23]) fun k _ => value_memRead2 p k⟩

/-- Settles O19: the two payloads have the same id and the same record, for CTL_DECODE reads nothing in which they differ. -/
theorem ignoredBitsDoNotMatter : Obligations.IgnoredBitsDoNotMatter := by
  intro p q hp hq hagree hlo hhi
  have hid : memRead1 p 0 = memRead1 q 0 := hagree 0 (by decide)
  have hrecord : ctlRecord p = ctlRecord q := ctlRecord_congr hagree (groupBit_le16_congr hlo hhi)
  rw [ctlDecode, ctlDecode, hp, hq, hid, hrecord]

/-- Settles O20: each pattern is computed. -/
theorem axisFloatExactPoints : Obligations.AxisFloatExactPoints := by
  unfold Obligations.AxisFloatExactPoints
  decide

/-- Settles O21: each row is the lane of its flag, and the flag is its bit. -/
theorem flagLanesTestOneBit : Obligations.FlagLanesTestOneBit := by
  intro s f
  have hlane (put : Bool → ControlState → ControlState) (k : Fin 8) : lane (put (flagBit f k)) s =
      .next { s with dec := put (decide (f &&& BitVec.twoPow 8 k ≠ 0)) s.dec, ev := .none } := by
    rw [lane_eq, flagBit_eq_decide]
  exact ⟨hlane (fun v c => { c with sas := v }) 7, hlane (fun v c => { c with rcs := v }) 6,
    hlane (fun v c => { c with lights := v }) 5, hlane (fun v c => { c with gear := v }) 4,
    hlane (fun v c => { c with brakes := v }) 3, hlane (fun v c => { c with precision := v }) 2,
    hlane (fun v c => { c with abort := v }) 1, hlane (fun v c => { c with stage := v }) 0⟩

/-- Settles O22: each row is the lane of its group, and the group's entry is its bit; index 0 has none. -/
theorem groupLanesTestOneBit : Obligations.GroupLanesTestOneBit := by
  intro s f
  have hlane (n : Fin 11) (hn : n ≠ 0) : lane (setGroup n f) s = .next { s with
      dec := { s.dec with controlGroup := s.dec.controlGroup.set n (decide (f &&& BitVec.twoPow 16 n ≠ 0)) }
      ev := .none } := by
    rw [lane_eq, setGroup, groupBit_eq_decide f hn]
  exact ⟨hlane 1 (by decide), hlane 2 (by decide), hlane 3 (by decide), hlane 4 (by decide), hlane 5 (by decide),
    hlane 6 (by decide), hlane 7 (by decide), hlane 8 (by decide), hlane 9 (by decide), hlane 10 (by decide),
    lane_eq (setGroup 0 f) s⟩

/-- Settles O23: each row is the lane of its one field or argument. -/
theorem modeNibbleReservedMarkerLanes : Obligations.ModeNibbleReservedMarkerLanes := by
  intro s f
  rw [← lowNibble_eq_ofNat, ← highNibble_eq_ofNat]
  simp only [exec]
  exact ⟨lane_eq _ s, lane_eq _ s, lane_eq _ s, lane_eq _ s, markerLane_eq _ s, markerLane_eq _ s, markerLane_eq _ s⟩

/-- Settles O24: each row is the lane of its axis. -/
theorem axisLanesKeepRaw : Obligations.AxisLanesKeepRaw := by
  intro s f
  simp only [exec]
  exact ⟨Axis.value_eq ⟨f⟩, lane_eq _ s, lane_eq _ s, lane_eq _ s, lane_eq _ s, lane_eq _ s, lane_eq _ s, lane_eq _ s,
    lane_eq _ s, lane_eq _ s⟩

/-- Settles O25: the rows are together one lane, which writes CTL_DECODE's record. -/
theorem fieldRowsTogetherAreCtlDecode : Obligations.FieldRowsTogetherAreCtlDecode :=
  fun s p hlen hid => ⟨_, (execAll_controlFieldRows p s).trans (lane_eq _ s), ctlDecode_eq_some hlen hid, rfl⟩

end Sys2Proof.Proofs
end

section
/-! The snapshot pair (spec/44_control_decoder.md R221 to R223): RECONCILE, O26, and READ_CONTROL, O27; what leaves `ctl.prev` as it
is, O49. -/

namespace Sys2Proof.Machine

variable {s t : State} {b : Byte} {p : List Byte} {i : Instr}

theorem exec_reconcile (s : State) : exec .reconcile s = .next { s with prev := s.cur, ev := .none } :=
  congrArg Host.Outcome.next (raise_none _)

theorem exec_readControl (s : State) :
    exec .readControl s = .next { s with readOut := ⟨s.cur, s.prev, s.ctlValid⟩, ev := .none } :=
  congrArg Host.Outcome.next (raise_none _)

/-! ### What leaves `ctl.prev` as it is -/

/-- No rule of the receiver writes `ctl.prev`: a completed Control frame replaces `ctl.cur` only (R220). -/
theorem applyRule_prev {c : RxClass} (h : applyRule c b s = .next t) : t.prev = s.prev := by
  cases c with
  | idleBe | idleSkip | syncEf | syncMiss | lengthAny | payloadIdRej | checkFail => cases h; rfl
  | payloadIdOk | payloadBody =>
    simp only [applyRule, rulePayloadIdOk, rulePayloadBody, bufStore_eq_next] at h
    obtain ⟨-, rfl⟩ := h
    rfl
  | checkOk => rcases dispatch_eq_next h with ⟨c, -, rfl⟩ | ⟨m1, m2, m3, rest, -, -, rfl⟩ | rfl <;> rfl

theorem takeByte_prev (h : takeByte b s = .next t) : t.prev = s.prev :=
  applyRule_prev (takeByte_eq_next.1 h).2

theorem deliver_prev {bs : List Byte} (h : deliver bs s = .next t) : t.prev = s.prev :=
  deliver_keeps (fun _ _ _ => rfl) takeByte_prev h

theorem encodeStep_prev (id : Byte) (p : List Byte) (s : State) : (encodeStep id p s).prev = s.prev := by
  rcases encodeStep_cases id p s with ⟨c, -, h⟩ | ⟨-, h⟩ <;> rw [h] <;> rfl

theorem execTlmSend_prev (h : execTlmSend p s = .next t) : t.prev = s.prev := by
  rcases execTlmSend_cases p s with ht | ht <;> cases ht.symm.trans h
  · exact encodeStep_prev _ p s
  · rfl

theorem execHsPoll_prev (h : execHsPoll s = .next t) : t.prev = s.prev := by
  rcases ne_or_eq s.hs .awaitingReply with ha | ha
  · cases (execHsPoll_of_not_awaiting ha).symm.trans h
    rfl
  · rcases Nat.lt_or_ge (s.hsAtt + 1) Config.hsMaxAttempts with hb | hb
    · cases (execHsPoll_of_budget_left ha hb).symm.trans h
      rfl
    · cases (execHsPoll_of_budget_reached ha hb).symm.trans h
      rfl

/-- RESET, OPEN, CLOSE and RECONCILE apart, no instruction writes `ctl.prev` (R221, R29). -/
theorem exec_prev (hi : i ∉ [Instr.resetBlock, .openLink, .closeLink, .reconcile]) (h : exec i s = .next t) :
    t.prev = s.prev := by
  cases i with
  | frameHandshake | frameControl | frameTelemetry | rxslice => exact deliver_prev h
  | rxbyte => exact takeByte_prev h
  | idleBe | idleSkip | syncEf | syncMiss | lengthAny | payloadIdOk | payloadIdRej | payloadBody | checkOk | checkFail =>
    exact takeByte_prev (takeByte_of_takeRow h)
  | resetBlock | openLink | closeLink | reconcile => exact absurd hi (by simp)
  | encodeFrame id p => cases h; exact encodeStep_prev id p s
  | quant => obtain ⟨q, rfl⟩ := execQuant_eq_next h; rfl
  | tlmSend => exact execTlmSend_prev h
  | hsStart => obtain ⟨-, rfl⟩ := execHsStart_eq_next.1 h; exact encodeStep_prev _ _ _
  | hsPoll => exact execHsPoll_prev h
  | _ => cases h; rfl

end Sys2Proof.Machine

namespace Sys2Proof.Proofs
open Sys2Proof.Machine

/-- Settles O26: RECONCILE copies the record, and a copy of it again changes nothing. -/
theorem reconcileCopiesCurToPrev : Obligations.ReconcileCopiesCurToPrev := by
  refine fun s => ⟨exec_reconcile s, ?_⟩
  simp only [execAll, exec_reconcile, andThen_next]

/-- Settles O27: READ_CONTROL latches the three as they stand. -/
theorem readControlReturnsPair : Obligations.ReadControlReturnsPair := exec_readControl

/-- Settles O49: neither a received byte nor a command but RECONCILE writes `ctl.prev`. -/
theorem prevWrittenOnlyByReconcile : Obligations.PrevWrittenOnlyByReconcile := fun _ _ _ => exec_prev

end Sys2Proof.Proofs
end

section
/-! The quantizer and TLM_SEND (spec/45_telemetry_quantizer.md): R241's rounding as a relation between a real number and an
integer, from which QUANT of a real angle, O36, and its order, O38, follow; the special floats, O37; TLM_SEND, O39. -/

namespace Sys2Proof.Machine

variable {s : State} {tie : TieRule} {a b : Angle} {x y z : ℝ} {r m : Int} {q : Half} {p : List Byte}

/-! ### Rounding as a relation -/

/-- `r` is a nearest integer to `y`, and where `y` is an exact half the one the tie rule names (R241). -/
def IsRounding (tie : TieRule) (y : ℝ) (r : Int) : Prop :=
  |y - r| ≤ 1 / 2 ∧
    (|y - r| = 1 / 2 → (tie = .halfAway → |y| < |(r : ℝ)|) ∧ (tie = .halfEven → r % 2 = 0))

/-- Nearer than a half no tie rule is asked. -/
theorem IsRounding.of_abs_lt (h : |y - r| < 1 / 2) : IsRounding tie y r :=
  ⟨h.le, fun htie => absurd htie h.ne⟩

/-- An exact half rounds to the integer below it where that is farther from zero, or even (R241). -/
theorem isRounding_half_below : IsRounding tie (m + 1 / 2) m ↔
    (tie = .halfAway → m < 0) ∧ (tie = .halfEven → m % 2 = 0) := by
  have hdist : |(m : ℝ) + 1 / 2 - m| = 1 / 2 := by norm_num
  have hfar : |(m : ℝ) + 1 / 2| < |(m : ℝ)| ↔ m < 0 := by
    rw [← sq_lt_sq]
    constructor <;> intro h
    · have : (m : ℝ) < 0 := by linarith
      exact_mod_cast this
    · have : (m : ℝ) ≤ -1 := by exact_mod_cast Int.le_sub_one_of_lt h
      linarith
  simp only [IsRounding, hdist, hfar, le_refl, true_and, forall_const]

/-- An exact half rounds to the integer above it where that is farther from zero, or even (R241). -/
theorem isRounding_half_above : IsRounding tie (m + 1 / 2) (m + 1) ↔
    (tie = .halfAway → 0 ≤ m) ∧ (tie = .halfEven → m % 2 ≠ 0) := by
  have hdist : |(m : ℝ) + 1 / 2 - (m + 1 : Int)| = 1 / 2 := by push_cast; norm_num
  have hfar : |(m : ℝ) + 1 / 2| < |((m + 1 : Int) : ℝ)| ↔ 0 ≤ m := by
    rw [← sq_lt_sq, Int.cast_add, Int.cast_one]
    constructor <;> intro h
    · have : (-1 : ℝ) < m := by linarith
      exact Int.lt_iff_add_one_le.1 (by exact_mod_cast this)
    · have : (0 : ℝ) ≤ m := by exact_mod_cast h
      linarith
  have heven : (m + 1) % 2 = 0 ↔ m % 2 ≠ 0 := by omega
  simp only [IsRounding, hdist, hfar, heven, le_refl, true_and, forall_const]

/-- The tie rule separates the two neighbours of an exact half. -/
theorem IsRounding.not_both_neighbours (hm : IsRounding tie (m + 1 / 2) m) : ¬ IsRounding tie (m + 1 / 2) (m + 1) := by
  rw [isRounding_half_below] at hm
  rw [isRounding_half_above]
  cases tie with
  | halfAway => exact fun hr => (hm.1 rfl).not_ge (hr.1 rfl)
  | halfEven => exact fun hr => hr.2 rfl (hm.2 rfl)

/-- Rounding keeps the order (R241, R242): the roundings of two numbers could only be out of order as the two neighbours of
one exact half. -/
theorem IsRounding.mono (hy : IsRounding tie y m) (hz : IsRounding tie z r) (hyz : y ≤ z) : m ≤ r := by
  by_contra hlt
  have hgap : (r : ℝ) + 1 ≤ m := by exact_mod_cast not_le.1 hlt
  have hym := abs_le.1 hy.1
  have hzr := abs_le.1 hz.1
  have hhalf : y = r + 1 / 2 ∧ z = r + 1 / 2 := by constructor <;> linarith
  have hm : m = r + 1 := by
    have : (m : ℝ) = r + 1 := by linarith
    exact_mod_cast this
  rw [hhalf.1, hm] at hy
  rw [hhalf.2] at hz
  exact hz.not_both_neighbours hy

/-- A number has one rounding. -/
theorem IsRounding.unique (hm : IsRounding tie y m) (hr : IsRounding tie y r) : m = r :=
  le_antisymm (hm.mono hr le_rfl) (hr.mono hm le_rfl)

/-- Rounding is symmetric about 0 (R241). -/
theorem IsRounding.neg (h : IsRounding tie y r) : IsRounding tie (-y) (-r) := by
  have hdist : |-y - ((-r : Int) : ℝ)| = |y - r| := by
    rw [← abs_neg]
    push_cast
    ring_nf
  unfold IsRounding
  rw [hdist, Int.cast_neg, abs_neg, abs_neg, Int.neg_emod_two]
  exact h

/-! ### The model's rounding -/

/-- Of an exact half the tie rule's neighbour is the rounding (R241). -/
theorem isRounding_roundTie (tie : TieRule) (m : Int) : IsRounding tie (m + 1 / 2) (roundTie tie m) := by
  cases tie with
  | halfAway =>
    have hround : roundTie .halfAway m = if 0 ≤ m then m + 1 else m := rfl
    rw [hround]
    split_ifs with h
    · exact isRounding_half_above.2 ⟨fun _ => h, nofun⟩
    · exact isRounding_half_below.2 ⟨fun _ => not_le.1 h, nofun⟩
  | halfEven =>
    have hround : roundTie .halfEven m = if m % 2 = 0 then m else m + 1 := rfl
    rw [hround]
    split_ifs with h
    · exact isRounding_half_below.2 ⟨nofun, fun _ => h⟩
    · exact isRounding_half_above.2 ⟨nofun, fun _ => h⟩

/-- `roundRat` is the rounding of a rational number: below the half, above it, and on it (R241). -/
theorem isRounding_roundRat (tie : TieRule) (q : ℚ) : IsRounding tie q (roundRat tie q) := by
  have hl : (⌊q⌋ : ℝ) ≤ q := by exact_mod_cast Int.floor_le q
  have hu : (q : ℝ) < ⌊q⌋ + 1 := by exact_mod_cast Int.lt_floor_add_one q
  rw [roundRat_eq_floor]
  split_ifs with hb ha
  · have hbelow : 2 * ((q : ℝ) - ⌊q⌋) < 1 := by exact_mod_cast hb
    exact .of_abs_lt (abs_lt.2 ⟨by linarith, by linarith⟩)
  · have habove : 1 < 2 * ((q : ℝ) - ⌊q⌋) := by exact_mod_cast ha
    exact .of_abs_lt (abs_lt.2 (by push_cast; constructor <;> linarith))
  · have hbelow : ¬ 2 * ((q : ℝ) - ⌊q⌋) < 1 := by exact_mod_cast hb
    have habove : ¬ 1 < 2 * ((q : ℝ) - ⌊q⌋) := by exact_mod_cast ha
    have hhalf : (q : ℝ) = ⌊q⌋ + 1 / 2 := by linarith
    rw [hhalf]
    exact isRounding_roundTie tie ⌊q⌋

/-- An operand that denotes a real number is rounded, and to the rounding of 50 times it (R240). -/
theorem roundAngle_of_denotes (tie : TieRule) (h : angleDenotes a x) :
    ∃ r, roundAngle tie a = some r ∧ IsRounding tie (x * 50) r := by
  cases a with
  | real q =>
    obtain rfl : x = q := h
    refine ⟨_, rfl, ?_⟩
    exact_mod_cast isRounding_roundRat tie (q * (Config.quantScale : ℚ))
  | irrational k =>
    obtain ⟨-, hl, hu⟩ := h
    exact ⟨_, rfl, .of_abs_lt (abs_sub_roundIrrational_lt hl hu)⟩
  | negZero =>
    obtain rfl : x = 0 := h
    exact ⟨0, rfl, .of_abs_lt (by norm_num)⟩
  | posInf | negInf | nan => exact h.elim

/-- Every real number is an operand's: a rational one exactly, an irrational one by its hundredths (log 21). -/
theorem exists_angleDenotes (x : ℝ) : ∃ a, angleDenotes a x := by
  by_cases hx : Irrational x
  · have hne : (⌊100 * x⌋ : ℝ) ≠ 100 * x := fun h =>
      (hx.natCast_mul (m := 100) (by decide)).ne_int ⌊100 * x⌋ (by exact_mod_cast h.symm)
    exact ⟨.irrational ⌊100 * x⌋, hx, lt_of_le_of_ne (Int.floor_le _) hne, Int.lt_floor_add_one _⟩
  · obtain ⟨q, hq⟩ := not_not.1 hx
    exact ⟨.real q, hq.symm⟩

/-- The clamp keeps the order (R242). -/
theorem toInt_clamp16_mono (h : m ≤ r) : (clamp16 m).toInt ≤ (clamp16 r).toInt := by
  rw [toInt_clamp16, toInt_clamp16]
  split_ifs <;> omega

/-! ### The commands -/

/-- QUANT of an operand with a quantized value puts it on `quant_out` and changes nothing else (R240). -/
theorem exec_quant_of_quantWith (s : State) (h : quantWith Config.quantTieRule a = some q) :
    exec (.quant a) s = .next { s with quantOut := q, ev := .none } := by
  rw [exec, execQuant, quantize, h]
  exact congrArg Host.Outcome.next (raise_none _)

/-- TLM_SEND of a payload of `TELEMETRY_LEN` bytes is ENCODE with id 1 (R246). -/
theorem exec_tlmSend_of_length_eq (s : State) (h : p.length = Config.telemetryLen.toNat) :
    exec (.tlmSend p) s = exec (.encodeFrame 1 p) s := if_pos h

theorem exec_tlmSend_of_length_ne (s : State) (h : p.length ≠ Config.telemetryLen.toNat) : exec (.tlmSend p) s =
    .next { s with ev := .encFail .lenMismatch, events := s.events ++ [.encFail .lenMismatch] } := if_neg h

/-- `TELEMETRY_LEN` is at least 1 (R5). -/
theorem toNat_telemetryLen_ne_zero : Config.telemetryLen.toNat ≠ 0 := by
  have hlt := Config.telemetryLenPred.isLt
  simp only [Config.telemetryLen, BitVec.toNat_ofNat]
  omega

end Sys2Proof.Machine

namespace Sys2Proof.Proofs
open Sys2Proof.Machine

/-- Settles O36: the integer is the one the operand rounds to, which is the rounding of 50 times the angle. -/
theorem quantRoundsToNearestAndClamps : Obligations.QuantRoundsToNearestAndClamps := by
  refine fun s x => ⟨exists_angleDenotes x, fun a ha => ?_⟩
  obtain ⟨r, hr, hnear, htie⟩ := roundAngle_of_denotes Config.quantTieRule ha
  exact ⟨r, _, exec_quant_of_quantWith s (quantWith_of_roundAngle hr), hnear, htie, toInt_clamp16 r, rfl⟩

/-- Settles O38: a real number has one rounding, rounding is symmetric and keeps the order, and so does the clamp. -/
theorem quantSymmetricAndMonotone : Obligations.QuantSymmetricAndMonotone := by
  refine fun tie => ⟨fun a b x ha hb => ?_, fun a b x y ha hb hxy => ?_⟩
  · obtain ⟨r, hr, hround⟩ := roundAngle_of_denotes tie ha
    obtain ⟨m, hm, hneg⟩ := roundAngle_of_denotes tie hb
    rw [neg_mul] at hneg
    exact ⟨r, hr, hneg.unique hround.neg ▸ hm⟩
  · obtain ⟨r, hr, hx⟩ := roundAngle_of_denotes tie ha
    obtain ⟨m, hm, hy⟩ := roundAngle_of_denotes tie hb
    have hle : r ≤ m := hx.mono hy (by linarith)
    exact ⟨_, _, quantWith_of_roundAngle hr, quantWith_of_roundAngle hm, toInt_clamp16_mono hle⟩

/-- Settles O37: the infinities have the ends of the clamp, negative zero rounds to 0, and a NaN has no quantized value. -/
theorem quantSpecialFloats : Obligations.QuantSpecialFloats := fun s =>
  ⟨exec_quant_of_quantWith s rfl, exec_quant_of_quantWith s rfl,
    exec_quant_of_quantWith s (quantWith_of_roundAngle (r := 0) rfl), rfl⟩

/-- Settles O39: with `TELEMETRY_LEN` bytes, which are 1 to 255, ENCODE fails by the id alone. -/
theorem tlmSendFramesOnlyExactLength : Obligations.TlmSendFramesOnlyExactLength := by
  refine fun s p => ⟨exec_tlmSend_of_length_eq s, ?_⟩
  by_cases hlen : p.length = Config.telemetryLen.toNat
  · have hlong : ¬ p.length > 255 := by have := Config.telemetryLen.isLt; omega
    have hempty : p.length ≠ 0 := hlen ▸ toNat_telemetryLen_ne_zero
    rw [exec_tlmSend_of_length_eq s hlen, encodeEmitsFrameOrFails s 1 p, if_neg hlong, if_neg hempty,
      if_neg (not_not.2 hlen)]
  · rw [exec_tlmSend_of_length_ne s hlen, if_pos hlen]

end Sys2Proof.Proofs
end

section
/-! Rejects and refused bytes (spec/60_exceptions.md R264, R271, R273): a rule that rejects takes the one shared reject, O47 and
O5; no byte is taken while the link is closed, O12. -/

namespace Sys2Proof.Machine

variable {s t : State} {b : Byte} {bs : List Byte}

/-- A rule that raises an event other than NONE and FRAME takes the reject of it, from the state as it was but for the buffer
(R273). -/
theorem applyRule_eq_reject {c : RxClass} (h : applyRule c b s = .next t) (hframe : ∀ id p, t.ev ≠ .frame id p)
    (hev : t.ev ≠ .none) : ∃ e buf free, t = reject e { s with buf := buf, free := free } := by
  cases c with
  | idleBe | idleSkip | syncEf | lengthAny => cases h; exact absurd rfl hev
  | payloadIdOk | payloadBody =>
    simp only [applyRule, rulePayloadIdOk, rulePayloadBody, bufStore_eq_next] at h
    obtain ⟨_, rfl⟩ := h
    exact absurd rfl hev
  | syncMiss | payloadIdRej => cases h; exact ⟨_, s.buf, s.free, rfl⟩
  | checkFail => cases h; exact ⟨_, (discardBuf s).buf, (discardBuf s).free, rfl⟩
  | checkOk => exact absurd (dispatch_events h).1 (hframe _ _)

theorem takeByte_of_closed (hc : s.linkClosed = true) (b : Byte) : takeByte b s = .refused .linkClosed :=
  whenOpen_closed hc

/-- A slice of one byte or more is refused at its first byte (R271). -/
theorem deliver_of_closed (hc : s.linkClosed = true) (hne : bs ≠ []) : deliver bs s = .refused .linkClosed := by
  obtain ⟨b, rest, rfl⟩ := List.exists_cons_of_ne_nil hne
  exact congrArg (andThen · fun t => takeBytes rest (noteSliceEvent t)) (takeByte_of_closed (by exact hc) b)

/-- A row is refused for the closed link before its condition is looked at (R271). -/
theorem exec_rowsOf_of_closed (hc : s.linkClosed = true) {i : Instr} (hi : i ∈ rowsOf b) :
    exec i s = .refused .linkClosed := by
  obtain ⟨c, hmem, rfl⟩ := mem_rowsOf.1 hi
  rw [exec_rowOf hmem]
  exact whenOpen_closed hc

end Sys2Proof.Machine

namespace Sys2Proof.Proofs
open Sys2Proof.Machine

/-- Settles O47: a rule that rejects takes the shared reject, which writes `st` and raises its event. -/
theorem rejectChangesOnlySt : Obligations.RejectChangesOnlySt := by
  intro s t b h hframe hev
  obtain ⟨e, buf, free, rfl⟩ := applyRule_eq_reject (takeByte_eq_next.1 h).2 hframe hev
  rw [← toList_of_ne_none hev]
  rfl

/-- Settles O5: the row is the receiver's step on an id byte that is not accepted. -/
theorem idByteRejectedBySize : Obligations.IdByteRejectedBySize := by
  intro s b ho hst hc hsize
  have hrej : ¬ idAccepted s b = true := fun hacc => by
    obtain ⟨hne, heq⟩ := idAccepted_iff.1 hacc
    exact hsize.elim hne (absurd heq)
  have hrow : classify s b = .payloadIdRej := (classify_of_id hst hc b).trans (if_neg hrej)
  exact (exec_rowOf_of_classify hrow).trans ((takeByte_id ho hst hc).trans (by rw [if_neg hrej]; rfl))

/-- Settles O12: RXBYTE and its rows ask for an open link first, and a slice or a frame starts with a byte. -/
theorem receivedBytesRefusedWhileClosed : Obligations.ReceivedBytesRefusedWhileClosed := by
  intro s hc
  have hframe (len id : Byte) (body : List Byte) (ck : Byte) :
      deliver (frameBytes len id body ck) s = .refused .linkClosed := deliver_of_closed hc (List.cons_ne_nil _ _)
  refine ⟨fun b i hi => ?_, fun bs => deliver_of_closed hc, fun m1 m2 m3 => hframe _ _ [m1, m2, m3],
    hframe _ _, fun len => hframe len _⟩
  rcases List.mem_cons.1 hi with rfl | hrow
  · exact takeByte_of_closed hc b
  · exact exec_rowsOf_of_closed hc hrow

end Sys2Proof.Proofs
end

section
/-! What writes `ctl.cur` (spec/60_exceptions.md R275, spec/10_state.md R38): RESET, OPEN and CLOSE apart, only a completed
Control frame, O48. -/

namespace Sys2Proof.Machine

variable {s t : State} {b : Byte} {p bs : List Byte} {i : Instr}

/-- `ctl.cur` is in `t` what it is in `s`, or the record decoded from the payload of a Control frame among the events
`l` (R38). -/
def CurFromFrame (l : List Event) (s t : State) : Prop :=
  t.cur = s.cur ∨ ∃ p, Event.frame 101 p ∈ l ∧ ctlDecode p = some t.cur

/-- A payload CTL_DECODE has a record for starts with the id 101 (R210). -/
theorem memRead1_zero_of_ctlDecode {c : ControlState} (h : ctlDecode p = some c) : memRead1 p 0 = 101 := by
  rw [ctlDecode, Option.ite_none_right_eq_some] at h
  exact h.1.2

/-- Of the rules of the receiver only R159 writes `ctl.cur`, through the mux, when it raises the Control frame's event. -/
theorem applyRule_cur {c : RxClass} (h : applyRule c b s = .next t) : CurFromFrame t.ev.toList s t := by
  cases c with
  | idleBe | idleSkip | syncEf | syncMiss | lengthAny | payloadIdRej | checkFail => cases h; exact .inl rfl
  | payloadIdOk | payloadBody =>
    simp only [applyRule, rulePayloadIdOk, rulePayloadBody, bufStore_eq_next] at h
    obtain ⟨-, rfl⟩ := h
    exact .inl rfl
  | checkOk =>
    rcases dispatch_eq_next h with ⟨c, hd, rfl⟩ | ⟨m1, m2, m3, rest, -, -, rfl⟩ | rfl
    · refine .inr ⟨payloadOf s, ?_, hd⟩
      rw [← memRead1_zero_of_ctlDecode hd]
      exact List.mem_singleton_self _
    · exact .inl rfl
    · exact .inl rfl

theorem takeByte_cur (h : takeByte b s = .next t) : CurFromFrame t.ev.toList s t :=
  applyRule_cur (takeByte_eq_next.1 h).2

/-- Of the bytes of a slice the last that completes a Control frame decides `ctl.cur`; its event is in the slice's result. -/
theorem takeBytes_cur (h : takeBytes bs s = .next t) : CurFromFrame t.sliceOut s t := by
  induction bs generalizing s with
  | nil => cases h; exact .inl rfl
  | cons b bs ih =>
    obtain ⟨u, hu, h⟩ := andThen_eq_next.1 h
    rcases ih h with hkeep | hlater
    · rw [noteSliceEvent_cur] at hkeep
      rw [CurFromFrame, hkeep]
      refine (takeByte_cur hu).imp_right fun ⟨p, hp, hd⟩ => ⟨p, ?_, hd⟩
      obtain ⟨l, -, hout⟩ := takeBytes_events h
      rw [hout, noteSliceEvent_sliceOut]
      exact List.mem_append_left l (List.mem_append_right u.sliceOut hp)
    · exact .inr hlater

theorem encodeStep_cur (id : Byte) (p : List Byte) (s : State) : (encodeStep id p s).cur = s.cur := by
  rcases encodeStep_cases id p s with ⟨c, -, h⟩ | ⟨-, h⟩ <;> rw [h] <;> rfl

theorem execTlmSend_cur (h : execTlmSend p s = .next t) : t.cur = s.cur := by
  rcases execTlmSend_cases p s with ht | ht <;> cases ht.symm.trans h
  · exact encodeStep_cur _ p s
  · rfl

theorem execHsPoll_cur (h : execHsPoll s = .next t) : t.cur = s.cur := by
  unfold execHsPoll at h
  split at h
  · cases h; rfl
  · split at h <;> cases h <;> rfl

/-- A byte's own event is what it adds to the event sequence (R30). -/
theorem takeByte_cur_events (h : takeByte b s = .next t) : CurFromFrame (t.events.drop s.events.length) s t := by
  have hevents : t.events = s.events ++ t.ev.toList := takeByte_raisesOneEvent h
  rw [hevents, List.drop_left]
  exact takeByte_cur h

/-- A slice's result is what it adds to the event sequence (R163). -/
theorem deliver_cur_events (h : deliver bs s = .next t) : CurFromFrame (t.events.drop s.events.length) s t := by
  rw [deliver_events h, List.drop_left]
  exact takeBytes_cur (s := { s with ev := .none, sliceOut := [] }) h

/-- RESET, OPEN and CLOSE apart, an instruction takes received bytes or does not write `ctl.cur` (R275). -/
theorem exec_cur (hr : i ∉ [Instr.resetBlock, .openLink, .closeLink]) (h : exec i s = .next t) :
    CurFromFrame (t.events.drop s.events.length) s t := by
  cases i with
  | frameHandshake | frameControl | frameTelemetry | rxslice => exact deliver_cur_events h
  | rxbyte => exact takeByte_cur_events h
  | idleBe | idleSkip | syncEf | syncMiss | lengthAny | payloadIdOk | payloadIdRej | payloadBody | checkOk | checkFail =>
    exact takeByte_cur_events (takeByte_of_takeRow h)
  | resetBlock | openLink | closeLink => exact absurd hr (by simp)
  | encodeFrame id p => cases h; exact .inl (encodeStep_cur id p s)
  | quant => obtain ⟨q, rfl⟩ := execQuant_eq_next h; exact .inl rfl
  | tlmSend => exact .inl (execTlmSend_cur h)
  | hsStart => obtain ⟨-, rfl⟩ := execHsStart_eq_next.1 h; exact .inl (encodeStep_cur _ _ _)
  | hsPoll => exact .inl (execHsPoll_cur h)
  | _ => cases h; exact .inl rfl

end Sys2Proof.Machine

namespace Sys2Proof.Proofs
open Sys2Proof.Machine

/-- Settles O48: what takes received bytes writes `ctl.cur` only where it raises the event of the decoded frame, and no
command but RESET, OPEN and CLOSE writes it. -/
theorem curWrittenOnlyByControlFrame : Obligations.CurWrittenOnlyByControlFrame := fun _ _ _ => exec_cur

end Sys2Proof.Proofs
end

section
/-! Reset, open, close (spec/70_reset_and_hazards.md R300 to R302, spec/60_exceptions.md R271): the three share their writes and
differ in the link flag, O44 and O45; once closed, the link stays closed along every run without OPEN, O46. -/

namespace Sys2Proof.Machine

variable {s t : State} {i : Instr} {is : List Instr}

/-- What RESET, OPEN and CLOSE leave, each with its own value of the link flag: the reset values, event NONE, and nothing added
to the event sequence or the TX stream (R300 to R302). -/
theorem raise_none_resetWrites (link : Bool) (s : State) :
    raise .none { resetWrites s with linkClosed := link } = { s with
      st := .idle, cur := zeroControl, prev := zeroControl, ctlValid := false, hs := .notStarted, hsAtt := 0
      ev := .none
      linkClosed := link
      rxLen := (resetWrites s).rxLen, cnt := (resetWrites s).cnt, buf := (resetWrites s).buf
      free := (resetWrites s).free } :=
  raise_none _

/-- In IDLE with an open link every byte is taken (R151, R152). -/
theorem exists_exec_rxbyte_of_idle (ho : s.linkClosed = false) (hst : s.st = .idle) (b : Byte) :
    ∃ u, exec (.rxbyte b) s = .next u :=
  ⟨_, takeByte_idle ho hst⟩

/-- No instruction but OPEN opens a closed link: CLOSE closes it again, and the others leave it (R302, log 7). -/
theorem exec_keeps_closed (hi : i ≠ .openLink) (h : exec i s = .next t) (hc : s.linkClosed = true) :
    t.linkClosed = true := by
  by_cases hclose : i = .closeLink
  · subst hclose
    cases h
    rfl
  · have hlink : i ∉ [Instr.openLink, .closeLink] := by simp [hi, hclose]
    exact (exec_linkClosed hlink h).trans hc

/-- A closed link is closed after every run of instructions without OPEN (R302). -/
theorem execAll_keeps_closed (his : Instr.openLink ∉ is) (h : execAll is s = .next t) (hc : s.linkClosed = true) :
    t.linkClosed = true := by
  induction is generalizing s with
  | nil => cases h; exact hc
  | cons i is ih =>
    have hi : i ≠ .openLink := (List.ne_of_not_mem_cons his).symm
    obtain ⟨u, hu, h⟩ := andThen_eq_next.1 h
    exact ih (List.not_mem_of_not_mem_cons his) h (exec_keeps_closed hi hu hc)

end Sys2Proof.Machine

namespace Sys2Proof.Proofs
open Sys2Proof.Machine

/-- Settles O46: the run keeps the link closed, and a closed link refuses every byte. -/
theorem closeResetsAndRefusesBytes : Obligations.CloseResetsAndRefusesBytes := fun s =>
  ⟨_, rfl, raise_none_resetWrites true s, fun _ _ his h => takeByte_of_closed (execAll_keeps_closed his h rfl)⟩

/-- Settles O44: RESET is the shared writes with the link flag left as it is. -/
theorem resetWritesResetValues : Obligations.ResetWritesResetValues := fun s =>
  ⟨_, rfl, raise_none_resetWrites s.linkClosed s⟩

/-- Settles O45: after OPEN the link is open and the receiver in IDLE, where it takes every byte. -/
theorem openResetsAndTakesBytes : Obligations.OpenResetsAndTakesBytes := fun s =>
  ⟨_, rfl, raise_none_resetWrites false s, exists_exec_rxbyte_of_idle rfl rfl⟩

end Sys2Proof.Proofs
end
